-- ==== Sys2Proof/Word.lean ====
section
/-! DEFINITION. The word types of the SCU: bytes, ICR entries, line numbers, the ISR word, the 18-bit
stimulus word, source levels, frequencies and output events (spec/00_scope.md R9, R11). -/

namespace Sys2Proof

/-- One register access is one byte (spec/20_memory.md R35). -/
abbrev Byte := BitVec 8

/-- One ICR entry: bit 3 `EN`, bits 2:0 `LINE` (spec/10_state.md R20). -/
abbrev IcrEntry := BitVec 4

/-- A physical CPU interrupt line number, 0..7 (spec/00_scope.md R12, `N_LINES`). -/
abbrev LineNum := BitVec 3

/-- The Interrupt Status Register, one bit per source index 0..23 (spec/10_state.md R23). -/
abbrev IsrWord := BitVec 24

/-- The spec's 18-bit stimulus word (spec/30_encoding.md R48). -/
abbrev StimWord := BitVec 18

/-- A logical source index, 0..23 (spec/60_exceptions.md R98). -/
abbrev SourceIndex := Fin 24

/-- The two values of a source's level (spec/00_scope.md R12: 1 is asserted, 0 is deasserted). -/
inductive Level where
  | deasserted
  | asserted
deriving DecidableEq, Repr

/-- A level as the bit the spec writes for it (spec/00_scope.md R12). -/
abbrev Level.bit : Level → Bool
  | .deasserted => false
  | .asserted => true

/-- The level a bit stands for (spec/00_scope.md R12). -/
abbrev Level.ofBit : Bool → Level
  | false => .deasserted
  | true => .asserted

/-- A frequency handed to `set_clock`: an opaque token with decidable equality, never computed with
(spec/00_scope.md R7). The token is no number of hertz. -/
structure Freq where
  token : Nat
deriving DecidableEq, Repr, Inhabited

/-- The output events: the calls the SCU makes on the CPU collaborator (spec/00_scope.md R11). -/
inductive Event where
  | setClock (f : Freq)
  | lineClear (n : LineNum)
  | lineAssert (n : LineNum)
deriving DecidableEq, Repr

end Sys2Proof
end

