-- ==== Sys2Proof/Config.lean ====
section
/-! DEFINITION. What the platform fixes and the spec leaves open (spec/00_scope.md R7): the clock table,
the default clock and the window's base address are opaque constants, so nothing can be proved of their
values; the wired set carries the spec's default (spec/92_eei_decisions.md D9). -/

namespace Sys2Proof

/-- `CLOCK_TABLE`, the 8-entry frequency table, read-only (spec/10_state.md R18). The values are not
given: not assumed distinct, ordered or non-zero (spec/92_eei_decisions.md D6; log entry 5). -/
opaque Config.clockTable : BitVec 3 → Freq

/-- `DEFAULT_CLOCK`, the "default/slow clock" (spec/10_state.md R16). Not assumed in, or out of, the
table (spec/92_eei_decisions.md D6; log entry 5). -/
opaque Config.defaultClock : Freq

/-- `SCU_BASE`, where the host's address map puts the window (spec/20_memory.md R32, R41;
spec/92_eei_decisions.md D7; log entry 6). -/
opaque Config.scuBase : Nat

/-- `WIRED`, the source indices that have a peripheral bound to them, at the spec's default
(spec/60_exceptions.md R98; log entry 7). No operation reads it. -/
def Config.wired : List Nat :=
  [1, 3, 4, 5, 6, 7, 8, 9, 10, 11, 12, 14, 15] ++ [16, 17, 18, 19, 20, 21]

end Sys2Proof
end

