-- ==== Sys2Proof/Syntax.lean ====
section
/-! DEFINITION. The operations of the SCU as syntax, one constructor per row of spec/opcode_table.json.
The hardware has no instructions; its four operations `RD`, `WR`, `SRC`, `RST` stand where an ISA has
them (spec/00_scope.md R8), each cut into rows by the decoded offset (spec/30_encoding.md R50, R51). -/

namespace Sys2Proof

/-- One operation on the SCU, its offset decoded. -/
inductive Instr where
  /-- `RD_CCR`. R73: read of offset 0, the Clock Control Register. -/
  | rdCcr
  /-- `RD_DCR`. R74: read of offset 1, the DCR placeholder. -/
  | rdDcr
  /-- `RD_FCR`. R75: read of offset 2, the FCR placeholder. -/
  | rdFcr
  /-- `RD_PCR`. R76: read of offset 3, the PCR placeholder. -/
  | rdPcr
  /-- `RD_IDER0`. R77: read of offset 4, the IDER0 placeholder. -/
  | rdIder0
  /-- `RD_IDER1`. R78: read of offset 5, the IDER1 placeholder. -/
  | rdIder1
  /-- `RD_ISAR`. R79: read of offset 6, the ISAR placeholder. -/
  | rdIsar
  /-- `RD_OFF7`. R80: read of offset 7. -/
  | rdOff7
  /-- `RD_ABR`. R81: read of offset 8 + i, an Address Boundary Register. -/
  | rdAbr (i : Fin 8)
  /-- `RD_ISR_HI`. R82: read of offset 16, ISR[23:16]. -/
  | rdIsrHi
  /-- `RD_ISR_MID`. R83: read of offset 17, ISR[15:8]. -/
  | rdIsrMid
  /-- `RD_ISR_LO`. R84: read of offset 18, ISR[7:0]. -/
  | rdIsrLo
  /-- `RD_IACK1`. R85: read of offset 19, the acknowledge of line 1. -/
  | rdIack1
  /-- `RD_IACK2`. R85: read of offset 20, the acknowledge of line 2. -/
  | rdIack2
  /-- `RD_IACK3`. R85: read of offset 21, the acknowledge of line 3. -/
  | rdIack3
  /-- `RD_IACK4`. R85: read of offset 22, the acknowledge of line 4. -/
  | rdIack4
  /-- `RD_IACK5`. R85: read of offset 23, the acknowledge of line 5. -/
  | rdIack5
  /-- `RD_IACK6`. R85: read of offset 24, the acknowledge of line 6. -/
  | rdIack6
  /-- `RD_IACK7`. R85: read of offset 25, the acknowledge of line 7. -/
  | rdIack7
  /-- `RD_RSV26_27`. R86: read of offset 26 or 27. -/
  | rdRsv26_27 (offset : Nat)
  /-- `RD_RSV28_31`. R87: read of offsets 28..31, reserved. -/
  | rdRsv28_31 (offset : Nat)
  /-- `RD_OOR_32_63`. R88: read of offsets 32..63, out of range. -/
  | rdOor32_63 (offset : Nat)
  /-- `RD_OOR_64_127`. R88: read of offsets 64..127, out of range. -/
  | rdOor64_127 (offset : Nat)
  /-- `RD_OOR_128_255`. R88: read of any offset from 128 up, out of range. The stimulus word reaches 255; a larger offset
  behaves the same (R48) and is carried here too (log entry 13). -/
  | rdOor128_255 (offset : Nat)
  /-- `WR_CCR`. R60: write of offset 0, the Clock Control Register. -/
  | wrCcr (value : Byte)
  /-- `WR_DCR`. R61: write of offset 1, the DCR placeholder. -/
  | wrDcr (value : Byte)
  /-- `WR_FCR`. R62: write of offset 2, the FCR placeholder. -/
  | wrFcr (value : Byte)
  /-- `WR_PCR`. R63: write of offset 3, the PCR placeholder. -/
  | wrPcr (value : Byte)
  /-- `WR_IDER0`. R64: write of offset 4, the IDER0 placeholder. -/
  | wrIder0 (value : Byte)
  /-- `WR_IDER1`. R65: write of offset 5, the IDER1 placeholder. -/
  | wrIder1 (value : Byte)
  /-- `WR_ISAR`. R66: write of offset 6, the ISAR placeholder. -/
  | wrIsar (value : Byte)
  /-- `WR_OFF7`. R67: write of offset 7. -/
  | wrOff7 (value : Byte)
  /-- `WR_ABR`. R68: write of offset 8 + i, an Address Boundary Register. -/
  | wrAbr (i : Fin 8) (value : Byte)
  /-- `WR_ICRB0_7`. R69: write of offset 16 + k with k in 0..7: the entries 2k and 2k + 1. -/
  | wrIcrb0_7 (k : Fin 12) (value : Byte)
  /-- `WR_ICRB8_11`. R69: write of offset 16 + k with k in 8..11: the entries 2k and 2k + 1. -/
  | wrIcrb8_11 (k : Fin 12) (value : Byte)
  /-- `WR_RSV28_31`. R70: write of offsets 28..31, reserved. -/
  | wrRsv28_31 (offset : Nat) (value : Byte)
  /-- `WR_OOR_32_63`. R71: write of offsets 32..63, out of range. -/
  | wrOor32_63 (offset : Nat) (value : Byte)
  /-- `WR_OOR_64_127`. R71: write of offsets 64..127, out of range. -/
  | wrOor64_127 (offset : Nat) (value : Byte)
  /-- `WR_OOR_128_255`. R71: write of any offset from 128 up, out of range. The stimulus word reaches 255; a larger offset
  behaves the same (R48) and is carried here too (log entry 13). -/
  | wrOor128_255 (offset : Nat) (value : Byte)
  /-- `SRC_0_15`. R90: a source notification with index in 0..15. -/
  | src0_15 (index : SourceIndex) (level : Level)
  /-- `SRC_16_23`. R90: a source notification with index in 16..23. -/
  | src16_23 (index : SourceIndex) (level : Level)
  /-- `RST`. R116: the machine reset. -/
  | rst
deriving DecidableEq, Repr

end Sys2Proof
end

