-- ==== Sys2Proof/WellFormed.lean ====
section
/-! DEFINITION. Which terms of `Instr` stand for an operation of the table: each operand inside the range
of offsets or indices its row covers (spec/30_encoding.md R49 to R51). Decoding gives no other term. -/

namespace Sys2Proof

/-- The operand lies in the range the constructor's row of the opcode table covers. -/
def Instr.wellFormed : Instr → Bool
  | .rdCcr => true
  | .rdDcr => true
  | .rdFcr => true
  | .rdPcr => true
  | .rdIder0 => true
  | .rdIder1 => true
  | .rdIsar => true
  | .rdOff7 => true
  | .rdAbr _ => true
  | .rdIsrHi => true
  | .rdIsrMid => true
  | .rdIsrLo => true
  | .rdIack1 => true
  | .rdIack2 => true
  | .rdIack3 => true
  | .rdIack4 => true
  | .rdIack5 => true
  | .rdIack6 => true
  | .rdIack7 => true
  | .rdRsv26_27 offset => 26 ≤ offset && offset ≤ 27
  | .rdRsv28_31 offset => 28 ≤ offset && offset ≤ 31
  | .rdOor32_63 offset => 32 ≤ offset && offset ≤ 63
  | .rdOor64_127 offset => 64 ≤ offset && offset ≤ 127
  | .rdOor128_255 offset => 128 ≤ offset
  | .wrCcr _ => true
  | .wrDcr _ => true
  | .wrFcr _ => true
  | .wrPcr _ => true
  | .wrIder0 _ => true
  | .wrIder1 _ => true
  | .wrIsar _ => true
  | .wrOff7 _ => true
  | .wrAbr _ _ => true
  | .wrIcrb0_7 k _ => k.val ≤ 7
  | .wrIcrb8_11 k _ => 8 ≤ k.val
  | .wrRsv28_31 offset _ => 28 ≤ offset && offset ≤ 31
  | .wrOor32_63 offset _ => 32 ≤ offset && offset ≤ 63
  | .wrOor64_127 offset _ => 64 ≤ offset && offset ≤ 127
  | .wrOor128_255 offset _ => 128 ≤ offset
  | .src0_15 index _ => index.val ≤ 15
  | .src16_23 index _ => 16 ≤ index.val
  | .rst => true

/-- The offset fits the 8-bit `a` field of the stimulus word (spec/30_encoding.md R48: a larger offset
"needs no word of its own"). Only the open-ended out-of-range rows can fail this. -/
def Instr.fitsWord : Instr → Bool
  | .rdCcr => true
  | .rdDcr => true
  | .rdFcr => true
  | .rdPcr => true
  | .rdIder0 => true
  | .rdIder1 => true
  | .rdIsar => true
  | .rdOff7 => true
  | .rdAbr _ => true
  | .rdIsrHi => true
  | .rdIsrMid => true
  | .rdIsrLo => true
  | .rdIack1 => true
  | .rdIack2 => true
  | .rdIack3 => true
  | .rdIack4 => true
  | .rdIack5 => true
  | .rdIack6 => true
  | .rdIack7 => true
  | .rdRsv26_27 _ => true
  | .rdRsv28_31 _ => true
  | .rdOor32_63 _ => true
  | .rdOor64_127 _ => true
  | .rdOor128_255 offset => offset ≤ 255
  | .wrCcr _ => true
  | .wrDcr _ => true
  | .wrFcr _ => true
  | .wrPcr _ => true
  | .wrIder0 _ => true
  | .wrIder1 _ => true
  | .wrIsar _ => true
  | .wrOff7 _ => true
  | .wrAbr _ _ => true
  | .wrIcrb0_7 _ _ => true
  | .wrIcrb8_11 _ _ => true
  | .wrRsv28_31 _ _ => true
  | .wrOor32_63 _ _ => true
  | .wrOor64_127 _ _ => true
  | .wrOor128_255 offset _ => offset ≤ 255
  | .src0_15 _ _ => true
  | .src16_23 _ _ => true
  | .rst => true

end Sys2Proof
end

