-- ==== Sys2Proof/Decode.lean ====
section
/-! DEFINITION. What the agents issue (`Request`), the decode of an offset on the write and on the read
side (spec/30_encoding.md R50, R51), the decode of a stimulus word (R48, R49), the inputs refused at the
model's boundary (R56), and the encoder. Decoding is total and rejects by name. -/

namespace Sys2Proof

/-- What an agent hands the SCU: one of the four operations with its arguments (spec/30_encoding.md R47),
or the same written as a stimulus word (R48), or an access the spec gives no meaning (R35). -/
inductive Request where
  /-- `RD(offset)`, by the CPU; the offset is any natural number. -/
  | read (offset : Nat)
  /-- `WR(offset, value)`, by the CPU. -/
  | write (offset : Nat) (value : Byte)
  /-- `SRC(index, level)`, by a peripheral; an index of 24 or more is refused (R56). -/
  | source (index : Nat) (level : Level)
  /-- `RST`, by the machine. -/
  | reset
  /-- An access to the window of more than one byte: refused (spec/20_memory.md R35). -/
  | wideAccess (offset : Nat)
  /-- An operation written as a stimulus word, given as a number (R48). -/
  | word (w : Nat)
deriving DecidableEq, Repr

/-- Why an input is refused at the model's boundary: "an ill-formed input, never a step"
(spec/30_encoding.md R56). -/
inductive Reject where
  /-- `SRC` with an index outside 0..23, as a request or in the `a` field of a word (R56; D8). -/
  | sourceIndexOutOfRange
  /-- An access to the window wider than one byte (R56; D4). -/
  | accessWiderThanByte
  /-- A word of kind `RD` whose `d` field is not zero (R49, R56). -/
  | readDataNotZero
  /-- A word of kind `SRC` whose bits 7:1 are not zero (R49, R56). -/
  | sourceDataNotZero
  /-- A word of kind `RST` whose `a` or `d` field is not zero (R49, R56). -/
  | resetFieldNotZero
  /-- A number that is no 18-bit word (log entry 14). -/
  | wordTooWide
deriving DecidableEq, Repr

/-- The read-side decode of an offset (spec/30_encoding.md R51), tests in
order, first match wins: every natural number selects one row. -/
def decodeRead (offset : Nat) : Instr :=
  if 32 ≤ offset then
    if offset < 64 then .rdOor32_63 offset
    else if offset < 128 then .rdOor64_127 offset
    else .rdOor128_255 offset
  else if offset = 0 then .rdCcr
  else if offset = 1 then .rdDcr
  else if offset = 2 then .rdFcr
  else if offset = 3 then .rdPcr
  else if offset = 4 then .rdIder0
  else if offset = 5 then .rdIder1
  else if offset = 6 then .rdIsar
  else if offset = 7 then .rdOff7
  else if h : 8 ≤ offset ∧ offset ≤ 15 then .rdAbr ⟨offset - 8, by omega⟩
  else if offset = 16 then .rdIsrHi
  else if offset = 17 then .rdIsrMid
  else if offset = 18 then .rdIsrLo
  else if offset = 19 then .rdIack1
  else if offset = 20 then .rdIack2
  else if offset = 21 then .rdIack3
  else if offset = 22 then .rdIack4
  else if offset = 23 then .rdIack5
  else if offset = 24 then .rdIack6
  else if offset = 25 then .rdIack7
  else if offset ≤ 27 then .rdRsv26_27 offset
  else .rdRsv28_31 offset

/-- The write-side decode of an offset (spec/30_encoding.md R50), tests in
order, first match wins: every natural number selects one row. -/
def decodeWrite (offset : Nat) (value : Byte) : Instr :=
  if 32 ≤ offset then
    if offset < 64 then .wrOor32_63 offset value
    else if offset < 128 then .wrOor64_127 offset value
    else .wrOor128_255 offset value
  else if offset = 0 then .wrCcr value
  else if offset = 1 then .wrDcr value
  else if offset = 2 then .wrFcr value
  else if offset = 3 then .wrPcr value
  else if offset = 4 then .wrIder0 value
  else if offset = 5 then .wrIder1 value
  else if offset = 6 then .wrIsar value
  else if offset = 7 then .wrOff7 value
  else if h : 8 ≤ offset ∧ offset ≤ 15 then .wrAbr ⟨offset - 8, by omega⟩ value
  else if h : 16 ≤ offset ∧ offset ≤ 23 then .wrIcrb0_7 ⟨offset - 16, by omega⟩ value
  else if h : 24 ≤ offset ∧ offset ≤ 27 then .wrIcrb8_11 ⟨offset - 16, by omega⟩ value
  else .wrRsv28_31 offset value

/-- The decode of a source notification: an index outside 0..23 is refused (spec/42_source_router.md R89,
spec/30_encoding.md R56). -/
def decodeSource (index : Nat) (level : Level) : Except Reject Instr :=
  if h : index < 24 then
    if index < 16 then .ok (.src0_15 ⟨index, h⟩ level) else .ok (.src16_23 ⟨index, h⟩ level)
  else .error .sourceIndexOutOfRange

/-- Field `kind`, bits 17:16 of a stimulus word (spec/30_encoding.md R48). -/
def wordKind (w : StimWord) : BitVec 2 := w.extractLsb' 16 2

/-- Field `a`, bits 15:8 of a stimulus word (spec/30_encoding.md R48). -/
def wordA (w : StimWord) : Byte := w.extractLsb' 8 8

/-- Field `d`, bits 7:0 of a stimulus word (spec/30_encoding.md R48). -/
def wordD (w : StimWord) : Byte := w.extractLsb' 0 8

/-- The decode of a stimulus word (spec/30_encoding.md R49), with the must-be-zero checks of each kind. -/
def decodeWord (w : StimWord) : Except Reject Instr :=
  if wordKind w = 0b00#2 then
    if wordD w = 0#8 then .ok (decodeRead (wordA w).toNat) else .error .readDataNotZero
  else if wordKind w = 0b01#2 then
    .ok (decodeWrite (wordA w).toNat (wordD w))
  else if wordKind w = 0b10#2 then
    if 24 ≤ (wordA w).toNat then .error .sourceIndexOutOfRange
    else if (wordD w).extractLsb' 1 7 = 0#7 then
      decodeSource (wordA w).toNat (Level.ofBit ((wordD w).getLsbD 0))
    else .error .sourceDataNotZero
  else
    if wordA w = 0#8 ∧ wordD w = 0#8 then .ok .rst else .error .resetFieldNotZero

/-- The decode of a number as a stimulus word: one of 18 bits or fewer (spec/30_encoding.md R48). -/
def decodeNumber (n : Nat) : Except Reject Instr :=
  if n < 2 ^ 18 then decodeWord (BitVec.ofNat 18 n) else .error .wordTooWide

/-- The decode of what an agent hands the SCU (spec/30_encoding.md R47 to R51, R56). -/
def decodeRequest : Request → Except Reject Instr
  | .read offset => .ok (decodeRead offset)
  | .write offset value => .ok (decodeWrite offset value)
  | .source index level => decodeSource index level
  | .reset => .ok .rst
  | .wideAccess _ => .error .accessWiderThanByte
  | .word w => decodeNumber w

/-- The host's view of the decoder: the operation read from an opcode-table word of `nbits` bits,
numbered as the table numbers them; the bits above are zero. -/
def decodeTableWord (nbits w : Nat) : Option Instr :=
  match decodeNumber (w % 2 ^ nbits) with
  | .ok i => some i
  | .error _ => none

/-- Put a stimulus word together from its fields (spec/30_encoding.md R48):
`S = kind * 0x10000 + a * 0x100 + d`. -/
def assembleWord (kind : BitVec 2) (a : Nat) (d : Byte) : StimWord :=
  kind ++ (BitVec.ofNat 8 a ++ d)

/-- The word of a read (spec/30_encoding.md R48): the `d` field is zero. -/
def readWord (offset : Nat) : StimWord := assembleWord 0b00#2 offset 0#8

/-- The word of a write (spec/30_encoding.md R48). -/
def writeWord (offset : Nat) (value : Byte) : StimWord := assembleWord 0b01#2 offset value

/-- The word of a source notification (spec/30_encoding.md R48): bit 0 of `d` is the level. -/
def sourceWord (index : SourceIndex) (level : Level) : StimWord :=
  assembleWord 0b10#2 index.val (0#7 ++ BitVec.ofBool level.bit)

/-- The stimulus word of an operation, from the Encoding lines of spec/40_register_write.md,
spec/41_register_read.md, spec/42_source_router.md R90 and spec/70_reset_and_hazards.md R116. -/
def encode : Instr → StimWord
  | .rdCcr => readWord 0
  | .rdDcr => readWord 1
  | .rdFcr => readWord 2
  | .rdPcr => readWord 3
  | .rdIder0 => readWord 4
  | .rdIder1 => readWord 5
  | .rdIsar => readWord 6
  | .rdOff7 => readWord 7
  | .rdAbr i => readWord (8 + i.val)
  | .rdIsrHi => readWord 16
  | .rdIsrMid => readWord 17
  | .rdIsrLo => readWord 18
  | .rdIack1 => readWord 19
  | .rdIack2 => readWord 20
  | .rdIack3 => readWord 21
  | .rdIack4 => readWord 22
  | .rdIack5 => readWord 23
  | .rdIack6 => readWord 24
  | .rdIack7 => readWord 25
  | .rdRsv26_27 offset => readWord offset
  | .rdRsv28_31 offset => readWord offset
  | .rdOor32_63 offset => readWord offset
  | .rdOor64_127 offset => readWord offset
  | .rdOor128_255 offset => readWord offset
  | .wrCcr value => writeWord 0 value
  | .wrDcr value => writeWord 1 value
  | .wrFcr value => writeWord 2 value
  | .wrPcr value => writeWord 3 value
  | .wrIder0 value => writeWord 4 value
  | .wrIder1 value => writeWord 5 value
  | .wrIsar value => writeWord 6 value
  | .wrOff7 value => writeWord 7 value
  | .wrAbr i value => writeWord (8 + i.val) value
  | .wrIcrb0_7 k value => writeWord (16 + k.val) value
  | .wrIcrb8_11 k value => writeWord (16 + k.val) value
  | .wrRsv28_31 offset value => writeWord offset value
  | .wrOor32_63 offset value => writeWord offset value
  | .wrOor64_127 offset value => writeWord offset value
  | .wrOor128_255 offset value => writeWord offset value
  | .src0_15 index level => sourceWord index level
  | .src16_23 index level => sourceWord index level
  | .rst => assembleWord 0b11#2 0 0#8

/-- The request of an operation, with its offset as a natural number (spec/30_encoding.md R47). -/
def requestOf : Instr → Request
  | .rdCcr => .read 0
  | .rdDcr => .read 1
  | .rdFcr => .read 2
  | .rdPcr => .read 3
  | .rdIder0 => .read 4
  | .rdIder1 => .read 5
  | .rdIsar => .read 6
  | .rdOff7 => .read 7
  | .rdAbr i => .read (8 + i.val)
  | .rdIsrHi => .read 16
  | .rdIsrMid => .read 17
  | .rdIsrLo => .read 18
  | .rdIack1 => .read 19
  | .rdIack2 => .read 20
  | .rdIack3 => .read 21
  | .rdIack4 => .read 22
  | .rdIack5 => .read 23
  | .rdIack6 => .read 24
  | .rdIack7 => .read 25
  | .rdRsv26_27 offset => .read offset
  | .rdRsv28_31 offset => .read offset
  | .rdOor32_63 offset => .read offset
  | .rdOor64_127 offset => .read offset
  | .rdOor128_255 offset => .read offset
  | .wrCcr value => .write 0 value
  | .wrDcr value => .write 1 value
  | .wrFcr value => .write 2 value
  | .wrPcr value => .write 3 value
  | .wrIder0 value => .write 4 value
  | .wrIder1 value => .write 5 value
  | .wrIsar value => .write 6 value
  | .wrOff7 value => .write 7 value
  | .wrAbr i value => .write (8 + i.val) value
  | .wrIcrb0_7 k value => .write (16 + k.val) value
  | .wrIcrb8_11 k value => .write (16 + k.val) value
  | .wrRsv28_31 offset value => .write offset value
  | .wrOor32_63 offset value => .write offset value
  | .wrOor64_127 offset value => .write offset value
  | .wrOor128_255 offset value => .write offset value
  | .src0_15 index level => .source index.val level
  | .src16_23 index level => .source index.val level
  | .rst => .reset

/-- One row of spec/opcode_table.json: the row's mnemonic, `match` and `mask`. -/
structure TableRow where
  mnemonic : String
  pattern : StimWord
  mask : StimWord
deriving DecidableEq, Repr

/-- The row of spec/opcode_table.json an operation belongs to, its `match` and `mask` copied from there. -/
def Instr.row : Instr → TableRow
  | .rdCcr => ⟨"RD_CCR", 0x00000#18, 0x3FFFF#18⟩
  | .rdDcr => ⟨"RD_DCR", 0x00100#18, 0x3FFFF#18⟩
  | .rdFcr => ⟨"RD_FCR", 0x00200#18, 0x3FFFF#18⟩
  | .rdPcr => ⟨"RD_PCR", 0x00300#18, 0x3FFFF#18⟩
  | .rdIder0 => ⟨"RD_IDER0", 0x00400#18, 0x3FFFF#18⟩
  | .rdIder1 => ⟨"RD_IDER1", 0x00500#18, 0x3FFFF#18⟩
  | .rdIsar => ⟨"RD_ISAR", 0x00600#18, 0x3FFFF#18⟩
  | .rdOff7 => ⟨"RD_OFF7", 0x00700#18, 0x3FFFF#18⟩
  | .rdAbr _ => ⟨"RD_ABR", 0x00800#18, 0x3F8FF#18⟩
  | .rdIsrHi => ⟨"RD_ISR_HI", 0x01000#18, 0x3FFFF#18⟩
  | .rdIsrMid => ⟨"RD_ISR_MID", 0x01100#18, 0x3FFFF#18⟩
  | .rdIsrLo => ⟨"RD_ISR_LO", 0x01200#18, 0x3FFFF#18⟩
  | .rdIack1 => ⟨"RD_IACK1", 0x01300#18, 0x3FFFF#18⟩
  | .rdIack2 => ⟨"RD_IACK2", 0x01400#18, 0x3FFFF#18⟩
  | .rdIack3 => ⟨"RD_IACK3", 0x01500#18, 0x3FFFF#18⟩
  | .rdIack4 => ⟨"RD_IACK4", 0x01600#18, 0x3FFFF#18⟩
  | .rdIack5 => ⟨"RD_IACK5", 0x01700#18, 0x3FFFF#18⟩
  | .rdIack6 => ⟨"RD_IACK6", 0x01800#18, 0x3FFFF#18⟩
  | .rdIack7 => ⟨"RD_IACK7", 0x01900#18, 0x3FFFF#18⟩
  | .rdRsv26_27 _ => ⟨"RD_RSV26_27", 0x01A00#18, 0x3FEFF#18⟩
  | .rdRsv28_31 _ => ⟨"RD_RSV28_31", 0x01C00#18, 0x3FCFF#18⟩
  | .rdOor32_63 _ => ⟨"RD_OOR_32_63", 0x02000#18, 0x3E0FF#18⟩
  | .rdOor64_127 _ => ⟨"RD_OOR_64_127", 0x04000#18, 0x3C0FF#18⟩
  | .rdOor128_255 _ => ⟨"RD_OOR_128_255", 0x08000#18, 0x380FF#18⟩
  | .wrCcr _ => ⟨"WR_CCR", 0x10000#18, 0x3FF00#18⟩
  | .wrDcr _ => ⟨"WR_DCR", 0x10100#18, 0x3FF00#18⟩
  | .wrFcr _ => ⟨"WR_FCR", 0x10200#18, 0x3FF00#18⟩
  | .wrPcr _ => ⟨"WR_PCR", 0x10300#18, 0x3FF00#18⟩
  | .wrIder0 _ => ⟨"WR_IDER0", 0x10400#18, 0x3FF00#18⟩
  | .wrIder1 _ => ⟨"WR_IDER1", 0x10500#18, 0x3FF00#18⟩
  | .wrIsar _ => ⟨"WR_ISAR", 0x10600#18, 0x3FF00#18⟩
  | .wrOff7 _ => ⟨"WR_OFF7", 0x10700#18, 0x3FF00#18⟩
  | .wrAbr _ _ => ⟨"WR_ABR", 0x10800#18, 0x3F800#18⟩
  | .wrIcrb0_7 _ _ => ⟨"WR_ICRB0_7", 0x11000#18, 0x3F800#18⟩
  | .wrIcrb8_11 _ _ => ⟨"WR_ICRB8_11", 0x11800#18, 0x3FC00#18⟩
  | .wrRsv28_31 _ _ => ⟨"WR_RSV28_31", 0x11C00#18, 0x3FC00#18⟩
  | .wrOor32_63 _ _ => ⟨"WR_OOR_32_63", 0x12000#18, 0x3E000#18⟩
  | .wrOor64_127 _ _ => ⟨"WR_OOR_64_127", 0x14000#18, 0x3C000#18⟩
  | .wrOor128_255 _ _ => ⟨"WR_OOR_128_255", 0x18000#18, 0x38000#18⟩
  | .src0_15 _ _ => ⟨"SRC_0_15", 0x20000#18, 0x3F0FE#18⟩
  | .src16_23 _ _ => ⟨"SRC_16_23", 0x21000#18, 0x3F8FE#18⟩
  | .rst => ⟨"RST", 0x30000#18, 0x3FFFF#18⟩

/-- One well-formed operation of each row of spec/opcode_table.json, in the table's order. -/
def representatives : List Instr :=
  List.flatten
    [[.rdCcr, .rdDcr, .rdFcr, .rdPcr, .rdIder0, .rdIder1, .rdIsar, .rdOff7],
      [.rdAbr 0, .rdIsrHi, .rdIsrMid, .rdIsrLo],
      [.rdIack1, .rdIack2, .rdIack3, .rdIack4, .rdIack5, .rdIack6, .rdIack7],
      [.rdRsv26_27 26, .rdRsv28_31 28, .rdOor32_63 32, .rdOor64_127 64, .rdOor128_255 128],
      [.wrCcr 0, .wrDcr 0, .wrFcr 0, .wrPcr 0, .wrIder0 0, .wrIder1 0, .wrIsar 0, .wrOff7 0],
      [.wrAbr 0 0, .wrIcrb0_7 0 0, .wrIcrb8_11 8 0],
      [.wrRsv28_31 28 0, .wrOor32_63 32 0, .wrOor64_127 64 0, .wrOor128_255 128 0],
      [.src0_15 0 .deasserted, .src16_23 16 .deasserted, .rst]]

/-- The 42 rows of spec/opcode_table.json, in the table's order. -/
def opcodeTable : List TableRow := representatives.map Instr.row

/-- `MemRead(SCU_BASE + offset, 1)` as seen by the CPU is `RD(offset)` (spec/20_memory.md R32); a lower
address does not reach the window. -/
def Request.ofBusRead (address : Nat) : Option Request :=
  if Config.scuBase ≤ address then some (.read (address - Config.scuBase)) else none

/-- `MemWrite(SCU_BASE + offset, 1, v)` as seen by the CPU is `WR(offset, v)` (spec/20_memory.md R32). -/
def Request.ofBusWrite (address : Nat) (value : Byte) : Option Request :=
  if Config.scuBase ≤ address then some (.write (address - Config.scuBase) value) else none

/-- Pseudo-operation `ICRSET i, n` with the neighbour's nibble `m` (spec/30_encoding.md R58): an even
entry is the high nibble of its byte, an odd one the low nibble. -/
def pseudoIcrSet (i : SourceIndex) (n m : IcrEntry) : Request :=
  if i.val % 2 = 0 then .write (16 + i.val / 2) (n ++ m) else .write (16 + (i.val - 1) / 2) (m ++ n)

/-- Pseudo-operation `IACK L` (spec/30_encoding.md R58), meant for `L` in 1..7. -/
def pseudoIack (line : LineNum) : Request := .read (18 + line.toNat)

/-- Pseudo-operation `RDISR`: three operations, not atomic (spec/30_encoding.md R58). -/
def pseudoRdIsr : List Request := [.read 16, .read 17, .read 18]

/-- Pseudo-operation `CLKSEL j` (spec/30_encoding.md R58). -/
def pseudoClkSel (j : BitVec 3) : Request := .write 0 (BitVec.ofNat 8 (j.toNat * 16))

/-- Pseudo-operation `CLKDEF` (spec/30_encoding.md R58). -/
def pseudoClkDef : Request := .write 0 0x80#8

end Sys2Proof
end

