-- ==== Sys2Proof/Machine/State.lean ====
section
/-! DEFINITION. The state of the SCU as plain data: the four entities of spec/10_state.md R13, the two
observation records of spec/00_scope.md R11, and the requests still to come; the (empty) fault type, the
refusals, and the state after reset (spec/10_state.md R31). -/

namespace Sys2Proof.Machine

/-- The machine. `ccr`, `abr`, `icr` and `isr` are the SCU's 192 bits (spec/10_state.md R13); `trace` is
the output trace (spec/00_scope.md R11); `readData` and `pending` are the model's own (log entries 1, 2). -/
structure State where
  /-- `CCR`, the Clock Control Register (spec/10_state.md R15, R16). -/
  ccr : Byte
  /-- `ABR[0..7]`, the Address Boundary Registers (spec/10_state.md R19). -/
  abr : Vector Byte 8
  /-- `ICR[0..23]`, the Interrupt Control Registers, one entry per source (spec/10_state.md R20). -/
  icr : Vector IcrEntry 24
  /-- `ISR`, the Interrupt Status Register, bit `i` for source `i` (spec/10_state.md R23). -/
  isr : IsrWord
  /-- The events emitted since the last `RST`, oldest first (spec/00_scope.md R11). -/
  trace : List Event
  /-- The bytes the reads have returned to the CPU, oldest first (spec/00_scope.md R11; log entry 2). -/
  readData : List Byte
  /-- The requests the agents issue next, in the order of the one timeline (spec/20_memory.md R43; log entry 1). -/
  pending : List Request
deriving DecidableEq, Repr

/-- The fault type is EMPTY: "The model's fault type for this block is empty" (spec/60_exceptions.md R97).
No operation raises anything. -/
inductive Fault where
deriving DecidableEq, Repr

/-- Why a step has no meaning. -/
inductive Refusal where
  /-- Raised by an arm of `exec` for an operation not modelled yet; no arm of this model raises it. Safe:
  the run stops where the hardware goes on. -/
  | notModelled (mnemonic : String)
  /-- Raised by `step` for an input outside what the spec defines (spec/30_encoding.md R56): "a refusal is
  never a behaviour of the hardware" (spec/00_scope.md R10). Safe: nothing is claimed of such an input. -/
  | illFormedInput (why : Reject)
deriving DecidableEq, Repr

/-- The machine right after reset (spec/10_state.md R31): every register zero, the trace empty, no byte
returned yet and no request waiting. -/
def State.reset : State :=
  { ccr := 0#8
    abr := Vector.replicate 8 0#8
    icr := Vector.replicate 24 0#4
    isr := 0#24
    trace := []
    readData := []
    pending := [] }

end Sys2Proof.Machine
end

