-- ==== Sys2Proof/Machine/Operands.lean ====
section
/-! DEFINITION. Operand assembly: the fields of the write data byte (spec/30_encoding.md R53), the index
computations (R52), and the fields of CCR and of an ICR entry (spec/10_state.md R16, R20). -/

namespace Sys2Proof.Machine

/-- `DEF`, bit 7 of CCR (spec/10_state.md R16). -/
def ccrDef (c : Byte) : Bool := c.getLsbD 7

/-- `SEL`, bits 6:4 of CCR (spec/10_state.md R16). -/
def ccrSel (c : Byte) : BitVec 3 := c.extractLsb' 4 3

/-- `clk_of`, the clock selection function (spec/10_state.md R17). -/
def clkOf (c : Byte) : Freq :=
  if ccrDef c then Config.defaultClock else Config.clockTable (ccrSel c)

/-- `EN`, bit 3 of an ICR entry (spec/10_state.md R20). -/
def icrEnable (e : IcrEntry) : Bool := e.getLsbD 3

/-- `LINE`, bits 2:0 of an ICR entry (spec/10_state.md R20). -/
def icrLine (e : IcrEntry) : LineNum := e.extractLsb' 0 3

/-- Bits 7:4 of an ICR byte, the even entry of the pair (spec/10_state.md R21). -/
def highNibble (v : Byte) : IcrEntry := v.extractLsb' 4 4

/-- Bits 3:0 of an ICR byte, the odd entry of the pair (spec/10_state.md R21). -/
def lowNibble (v : Byte) : IcrEntry := v.extractLsb' 0 4

/-- The source whose entry is in the high nibble of ICR byte `k`: `2k` (spec/30_encoding.md R52). -/
def evenSource (k : Fin 12) : SourceIndex := ⟨2 * k.val, by omega⟩

/-- The source whose entry is in the low nibble of ICR byte `k`: `2k + 1` (spec/30_encoding.md R52). -/
def oddSource (k : Fin 12) : SourceIndex := ⟨2 * k.val + 1, by omega⟩

/-- `zext_8(count)`, the assembly of the acknowledge count (spec/30_encoding.md R54). -/
def countByte (count : Nat) : Byte := BitVec.ofNat 8 count

end Sys2Proof.Machine
end

