-- ==== Sys2Proof/Machine/Flags.lean ====
section
/-! DEFINITION. The SCU's only status bits, the 24 bits of ISR (spec/10_state.md R29): writing one bit, the
three byte views (spec/20_memory.md R34), and the clear-and-count loop of the acknowledge read
(spec/41_register_read.md R85). -/

namespace Sys2Proof.Machine

/-- `ISR[i]`, the bit of source `i` (spec/10_state.md R23). -/
def isrBit (isr : IsrWord) (i : SourceIndex) : Bool := isr.getLsbD i.val

/-- `ISR[i] <- b`, every other bit kept (spec/10_state.md R24). -/
def writeIsrBit (isr : IsrWord) (i : SourceIndex) (b : Bool) : IsrWord :=
  if b then isr ||| BitVec.twoPow 24 i.val else isr &&& ~~~ BitVec.twoPow 24 i.val

/-- `ISR[23:16]` (spec/41_register_read.md R82). -/
def isrHigh (isr : IsrWord) : Byte := isr.extractLsb' 16 8

/-- `ISR[15:8]` (spec/41_register_read.md R83). -/
def isrMiddle (isr : IsrWord) : Byte := isr.extractLsb' 8 8

/-- `ISR[7:0]` (spec/41_register_read.md R84). -/
def isrLow (isr : IsrWord) : Byte := isr.extractLsb' 0 8

/-- `ACK_TESTS_ENABLE`, the spec's optional switch, at its default: the acknowledge read tests the line
select alone (spec/92_eei_decisions.md D10; spec/90_conflicts.md C2; log entry 10). -/
def ackTestsEnable : Bool := false

/-- Does an acknowledge of `line` clear and count a source with entry `e`? The rule's test is
`ICR[i][2:0] = L` (spec/41_register_read.md R85 corner case a); with the switch on, `EN` is tested too
(spec/92_eei_decisions.md D10). -/
def ackSelects (testsEnable : Bool) (line : LineNum) (e : IcrEntry) : Bool :=
  icrLine e == line && (!testsEnable || icrEnable e)

/-- One turn of the acknowledge loop: the ISR so far, the count so far, the source looked at
(spec/41_register_read.md R85). -/
def ackTurn (testsEnable : Bool) (icr : Vector IcrEntry 24) (line : LineNum) (acc : IsrWord × Nat)
    (i : SourceIndex) : IsrWord × Nat :=
  if ackSelects testsEnable line icr[i] then (writeIsrBit acc.1 i false, acc.2 + 1) else acc

/-- The acknowledge loop, `for i in 0..23` (spec/41_register_read.md R85): the new ISR and the count. -/
def ackLoop (testsEnable : Bool) (icr : Vector IcrEntry 24) (line : LineNum) (isr : IsrWord) : IsrWord × Nat :=
  (List.finRange 24).foldl (ackTurn testsEnable icr line) (isr, 0)

end Sys2Proof.Machine
end

