-- ==== Sys2Proof/Machine/Ops.lean ====
section
/-! DEFINITION. The named operations every meaning is made of: the register writes, `emit` and `return`
(spec/00_scope.md R10), the acknowledge (spec/41_register_read.md R85), the notification
(spec/42_source_router.md R90), the reset (spec/70_reset_and_hazards.md R116), and the two quantities
derived from the trace (spec/10_state.md R30).

There is no operation for taking an exception or returning from one: the SCU "takes no traps and saves
nothing" and has "no return-from-trap operation" (spec/60_exceptions.md R106, R107). Its whole part in the
CPU's interrupt entry is the pair of line events `State.notify` emits (R103). -/

namespace Sys2Proof.Machine

/-- `emit e` (spec/00_scope.md R10, R11). -/
def State.emit (s : State) (e : Event) : State := { s with trace := s.trace ++ [e] }

/-- `return v`: the byte goes to the CPU (spec/00_scope.md R10). -/
def State.deliver (s : State) (v : Byte) : State := { s with readData := s.readData ++ [v] }

/-- `CCR <- v`. -/
def State.setCcr (s : State) (v : Byte) : State := { s with ccr := v }

/-- `ABR[i] <- v`. -/
def State.setAbr (s : State) (i : Fin 8) (v : Byte) : State := { s with abr := s.abr.set i v }

/-- `ICR[i] <- e`. -/
def State.setIcr (s : State) (i : SourceIndex) (e : IcrEntry) : State := { s with icr := s.icr.set i e }

/-- `ISR <- w`. -/
def State.setIsr (s : State) (w : IsrWord) : State := { s with isr := w }

/-- The requests still to come, replaced. -/
def State.setPending (s : State) (rs : List Request) : State := { s with pending := rs }

/-- Write of CCR: store all 8 bits, then select the clock; one `SetClock` per write whatever the old value
(spec/40_register_write.md R60). -/
def State.writeCcr (s : State) (v : Byte) : State := (s.setCcr v).emit (.setClock (clkOf v))

/-- Write of ICR byte `k`: both entries of the pair, even index from the high nibble, no event
(spec/40_register_write.md R69). -/
def State.writeIcrByte (s : State) (k : Fin 12) (v : Byte) : State :=
  (s.setIcr (evenSource k) (highNibble v)).setIcr (oddSource k) (lowNibble v)

/-- The acknowledge read of `line`: clear and count the routed sources, clear the line, return the count
(spec/41_register_read.md R85). -/
def State.acknowledge (s : State) (line : LineNum) : State :=
  let done := ackLoop ackTestsEnable s.icr line s.isr
  ((s.setIsr done.1).emit (.lineClear line)).deliver (countByte done.2)

/-- The last step of an enabled notification: clear the line, then assert it only if the level is asserted
(spec/42_source_router.md R90 step 3, R94). -/
def State.pulseLine (s : State) (line : LineNum) : Level → State
  | .deasserted => s.emit (.lineClear line)
  | .asserted => (s.emit (.lineClear line)).emit (.lineAssert line)

/-- `SRC(index, level)`: nothing at all for a disabled source, else the ISR bit follows the level and the
source's line is pulsed or cleared (spec/42_source_router.md R90). -/
def State.notify (s : State) (i : SourceIndex) (level : Level) : State :=
  if icrEnable s.icr[i] then
    (s.setIsr (writeIsrBit s.isr i level.bit)).pulseLine (icrLine s.icr[i]) level
  else s

/-- `RST`: the four entities to zero (spec/70_reset_and_hazards.md R116), the trace restarted empty and no
event (R117). The record of read data and the requests still to come are not the SCU's and stay
(log entries 1, 2). -/
def State.resetRegisters (s : State) : State :=
  { s with
    ccr := State.reset.ccr
    abr := State.reset.abr
    icr := State.reset.icr
    isr := State.reset.isr
    trace := State.reset.trace }

/-- The level of line `n` after one more event (spec/10_state.md R30). -/
def lineAfter (n : LineNum) (level : Bool) : Event → Bool
  | .setClock _ => level
  | .lineClear m => if m = n then false else level
  | .lineAssert m => if m = n then true else level

/-- The selected frequency after one more event (spec/10_state.md R30). -/
def clkAfter (f : Freq) : Event → Freq
  | .setClock g => g
  | .lineClear _ => f
  | .lineAssert _ => f

/-- `LINE[n]`, a function of the trace: 1 if the last event on line `n` was an assert, else 0
(spec/10_state.md R30, spec/70_reset_and_hazards.md R117). -/
def State.line (s : State) (n : LineNum) : Bool := s.trace.foldl (lineAfter n) false

/-- `CLK`, a function of the trace: the argument of the last `SetClock`, or the reset selection
`clk_of(0x00)` (spec/10_state.md R30, spec/70_reset_and_hazards.md R118). -/
def State.clk (s : State) : Freq := s.trace.foldl clkAfter (clkOf 0x00#8)

end Sys2Proof.Machine
end

