-- ==== Sys2Proof/Machine/Read.lean ====
section
/-! DEFINITION. The register reads, `RD` (spec/41_register_read.md R72 to R88), one meaning per row. -/

namespace Sys2Proof.Machine

/-- `RD_CCR` (spec/41_register_read.md R73): `return CCR`, all 8 bits as stored. -/
def execRdCcr (s : State) : Host.Outcome State Fault Refusal :=
  .next (s.deliver s.ccr)

/-- `RD_DCR` (spec/41_register_read.md R74): `return 0x00`, nothing else. -/
def execRdDcr (s : State) : Host.Outcome State Fault Refusal :=
  .next (s.deliver 0x00#8)

/-- `RD_FCR` (spec/41_register_read.md R75): `return 0x00`, nothing else. -/
def execRdFcr (s : State) : Host.Outcome State Fault Refusal :=
  .next (s.deliver 0x00#8)

/-- `RD_PCR` (spec/41_register_read.md R76): `return 0x00`, nothing else. -/
def execRdPcr (s : State) : Host.Outcome State Fault Refusal :=
  .next (s.deliver 0x00#8)

/-- `RD_IDER0` (spec/41_register_read.md R77): `return 0x00`, nothing else. -/
def execRdIder0 (s : State) : Host.Outcome State Fault Refusal :=
  .next (s.deliver 0x00#8)

/-- `RD_IDER1` (spec/41_register_read.md R78): `return 0x00`, nothing else. -/
def execRdIder1 (s : State) : Host.Outcome State Fault Refusal :=
  .next (s.deliver 0x00#8)

/-- `RD_ISAR` (spec/41_register_read.md R79): `return 0x00`, nothing else. -/
def execRdIsar (s : State) : Host.Outcome State Fault Refusal :=
  .next (s.deliver 0x00#8)

/-- `RD_OFF7` (spec/41_register_read.md R80): `return 0x00`: "other | Return 0". -/
def execRdOff7 (s : State) : Host.Outcome State Fault Refusal :=
  .next (s.deliver 0x00#8)

/-- `RD_ABR` (spec/41_register_read.md R81): `return ABR[i]`. -/
def execRdAbr (i : Fin 8) (s : State) : Host.Outcome State Fault Refusal :=
  .next (s.deliver s.abr[i])

/-- `RD_ISR_HI` (spec/41_register_read.md R82): `return ISR[23:16]`, nothing cleared. -/
def execRdIsrHi (s : State) : Host.Outcome State Fault Refusal :=
  .next (s.deliver (isrHigh s.isr))

/-- `RD_ISR_MID` (spec/41_register_read.md R83): `return ISR[15:8]`, nothing cleared. -/
def execRdIsrMid (s : State) : Host.Outcome State Fault Refusal :=
  .next (s.deliver (isrMiddle s.isr))

/-- `RD_ISR_LO` (spec/41_register_read.md R84): `return ISR[7:0]`, nothing cleared; not an acknowledge of line 0. -/
def execRdIsrLo (s : State) : Host.Outcome State Fault Refusal :=
  .next (s.deliver (isrLow s.isr))

/-- `RD_IACK1` (spec/41_register_read.md R85): acknowledge of line 1, reached at offset 19. -/
def execRdIack1 (s : State) : Host.Outcome State Fault Refusal :=
  .next (s.acknowledge 1#3)

/-- `RD_IACK2` (spec/41_register_read.md R85): acknowledge of line 2, reached at offset 20. -/
def execRdIack2 (s : State) : Host.Outcome State Fault Refusal :=
  .next (s.acknowledge 2#3)

/-- `RD_IACK3` (spec/41_register_read.md R85): acknowledge of line 3, reached at offset 21. -/
def execRdIack3 (s : State) : Host.Outcome State Fault Refusal :=
  .next (s.acknowledge 3#3)

/-- `RD_IACK4` (spec/41_register_read.md R85): acknowledge of line 4, reached at offset 22. -/
def execRdIack4 (s : State) : Host.Outcome State Fault Refusal :=
  .next (s.acknowledge 4#3)

/-- `RD_IACK5` (spec/41_register_read.md R85): acknowledge of line 5, reached at offset 23. -/
def execRdIack5 (s : State) : Host.Outcome State Fault Refusal :=
  .next (s.acknowledge 5#3)

/-- `RD_IACK6` (spec/41_register_read.md R85): acknowledge of line 6, reached at offset 24. -/
def execRdIack6 (s : State) : Host.Outcome State Fault Refusal :=
  .next (s.acknowledge 6#3)

/-- `RD_IACK7` (spec/41_register_read.md R85): acknowledge of line 7, reached at offset 25. -/
def execRdIack7 (s : State) : Host.Outcome State Fault Refusal :=
  .next (s.acknowledge 7#3)

/-- `RD_RSV26_27` (spec/41_register_read.md R86): `return 0x00`, nothing else. -/
def execRdRsv26_27 (_offset : Nat) (s : State) : Host.Outcome State Fault Refusal :=
  .next (s.deliver 0x00#8)

/-- `RD_RSV28_31` (spec/41_register_read.md R87): `return 0x00`, nothing else. -/
def execRdRsv28_31 (_offset : Nat) (s : State) : Host.Outcome State Fault Refusal :=
  .next (s.deliver 0x00#8)

/-- `RD_OOR_32_63` (spec/41_register_read.md R88): `return 0x00`, nothing else. -/
def execRdOor32_63 (_offset : Nat) (s : State) : Host.Outcome State Fault Refusal :=
  .next (s.deliver 0x00#8)

/-- `RD_OOR_64_127` (spec/41_register_read.md R88): `return 0x00`, nothing else. -/
def execRdOor64_127 (_offset : Nat) (s : State) : Host.Outcome State Fault Refusal :=
  .next (s.deliver 0x00#8)

/-- `RD_OOR_128_255` (spec/41_register_read.md R88): `return 0x00`, nothing else. -/
def execRdOor128_255 (_offset : Nat) (s : State) : Host.Outcome State Fault Refusal :=
  .next (s.deliver 0x00#8)

end Sys2Proof.Machine
end

