-- ==== Sys2Proof/Machine/Reset.lean ====
section
/-! DEFINITION. The machine reset, `RST` (spec/70_reset_and_hazards.md R116, R117). -/

namespace Sys2Proof.Machine

/-- `RST` (spec/70_reset_and_hazards.md R116): the four entities to zero together; no event (R117). -/
def execRst (s : State) : Host.Outcome State Fault Refusal :=
  .next s.resetRegisters

end Sys2Proof.Machine
end

