-- ==== Sys2Proof/Machine/Source.lean ====
section
/-! DEFINITION. The source notifications, `SRC` (spec/42_source_router.md R89 to R95), one meaning per row. -/

namespace Sys2Proof.Machine

/-- `SRC_0_15` (spec/42_source_router.md R90): the notification of a source 0..15, wired or not. -/
def execSrc0_15 (index : SourceIndex) (level : Level) (s : State) : Host.Outcome State Fault Refusal :=
  .next (s.notify index level)

/-- `SRC_16_23` (spec/42_source_router.md R90): the notification of a source 16..23, wired or not. -/
def execSrc16_23 (index : SourceIndex) (level : Level) (s : State) : Host.Outcome State Fault Refusal :=
  .next (s.notify index level)

end Sys2Proof.Machine
end

