-- ==== Sys2Proof/Machine/Write.lean ====
section
/-! DEFINITION. The register writes, `WR` (spec/40_register_write.md R59 to R71), one meaning per row. -/

namespace Sys2Proof.Machine

/-- `WR_CCR` (spec/40_register_write.md R60): store, then select the clock. -/
def execWrCcr (value : Byte) (s : State) : Host.Outcome State Fault Refusal :=
  .next (s.writeCcr value)

/-- `WR_DCR` (spec/40_register_write.md R61): nothing; the value is dropped. -/
def execWrDcr (_value : Byte) (s : State) : Host.Outcome State Fault Refusal :=
  .next s

/-- `WR_FCR` (spec/40_register_write.md R62): nothing; the value is dropped. -/
def execWrFcr (_value : Byte) (s : State) : Host.Outcome State Fault Refusal :=
  .next s

/-- `WR_PCR` (spec/40_register_write.md R63): nothing; the value is dropped. -/
def execWrPcr (_value : Byte) (s : State) : Host.Outcome State Fault Refusal :=
  .next s

/-- `WR_IDER0` (spec/40_register_write.md R64): nothing; the value is dropped. -/
def execWrIder0 (_value : Byte) (s : State) : Host.Outcome State Fault Refusal :=
  .next s

/-- `WR_IDER1` (spec/40_register_write.md R65): nothing; the value is dropped. -/
def execWrIder1 (_value : Byte) (s : State) : Host.Outcome State Fault Refusal :=
  .next s

/-- `WR_ISAR` (spec/40_register_write.md R66): nothing; the value is dropped. -/
def execWrIsar (_value : Byte) (s : State) : Host.Outcome State Fault Refusal :=
  .next s

/-- `WR_OFF7` (spec/40_register_write.md R67): nothing (the spec's decision D5; log entry 8). -/
def execWrOff7 (_value : Byte) (s : State) : Host.Outcome State Fault Refusal :=
  .next s

/-- `WR_ABR` (spec/40_register_write.md R68): `ABR[offset - 8] <- value`. -/
def execWrAbr (i : Fin 8) (value : Byte) (s : State) : Host.Outcome State Fault Refusal :=
  .next (s.setAbr i value)

/-- `WR_ICRB0_7` (spec/40_register_write.md R69): `ICR[2k]` and `ICR[2k + 1]`. -/
def execWrIcrb0_7 (k : Fin 12) (value : Byte) (s : State) : Host.Outcome State Fault Refusal :=
  .next (s.writeIcrByte k value)

/-- `WR_ICRB8_11` (spec/40_register_write.md R69): `ICR[2k]` and `ICR[2k + 1]`. -/
def execWrIcrb8_11 (k : Fin 12) (value : Byte) (s : State) : Host.Outcome State Fault Refusal :=
  .next (s.writeIcrByte k value)

/-- `WR_RSV28_31` (spec/40_register_write.md R70): nothing; the value is dropped. -/
def execWrRsv28_31 (_offset : Nat) (_value : Byte) (s : State) : Host.Outcome State Fault Refusal :=
  .next s

/-- `WR_OOR_32_63` (spec/40_register_write.md R71): nothing; the value is dropped. -/
def execWrOor32_63 (_offset : Nat) (_value : Byte) (s : State) : Host.Outcome State Fault Refusal :=
  .next s

/-- `WR_OOR_64_127` (spec/40_register_write.md R71): nothing; the value is dropped. -/
def execWrOor64_127 (_offset : Nat) (_value : Byte) (s : State) : Host.Outcome State Fault Refusal :=
  .next s

/-- `WR_OOR_128_255` (spec/40_register_write.md R71): nothing; the value is dropped. -/
def execWrOor128_255 (_offset : Nat) (_value : Byte) (s : State) : Host.Outcome State Fault Refusal :=
  .next s

end Sys2Proof.Machine
end

