-- ==== Sys2Proof/Machine/Dispatch.lean ====
section
/-! DEFINITION. One arm per constructor of `Instr`: the meaning of each operation. -/

namespace Sys2Proof.Machine

def exec (i : Instr) (s : State) : Host.Outcome State Fault Refusal :=
  match i with
  -- register reads
  | .rdCcr => Sys2Proof.Machine.execRdCcr s
  | .rdDcr => Sys2Proof.Machine.execRdDcr s
  | .rdFcr => Sys2Proof.Machine.execRdFcr s
  | .rdPcr => Sys2Proof.Machine.execRdPcr s
  | .rdIder0 => Sys2Proof.Machine.execRdIder0 s
  | .rdIder1 => Sys2Proof.Machine.execRdIder1 s
  | .rdIsar => Sys2Proof.Machine.execRdIsar s
  | .rdOff7 => Sys2Proof.Machine.execRdOff7 s
  | .rdAbr r => Sys2Proof.Machine.execRdAbr r s
  | .rdIsrHi => Sys2Proof.Machine.execRdIsrHi s
  | .rdIsrMid => Sys2Proof.Machine.execRdIsrMid s
  | .rdIsrLo => Sys2Proof.Machine.execRdIsrLo s
  | .rdIack1 => Sys2Proof.Machine.execRdIack1 s
  | .rdIack2 => Sys2Proof.Machine.execRdIack2 s
  | .rdIack3 => Sys2Proof.Machine.execRdIack3 s
  | .rdIack4 => Sys2Proof.Machine.execRdIack4 s
  | .rdIack5 => Sys2Proof.Machine.execRdIack5 s
  | .rdIack6 => Sys2Proof.Machine.execRdIack6 s
  | .rdIack7 => Sys2Proof.Machine.execRdIack7 s
  | .rdRsv26_27 offset => Sys2Proof.Machine.execRdRsv26_27 offset s
  | .rdRsv28_31 offset => Sys2Proof.Machine.execRdRsv28_31 offset s
  | .rdOor32_63 offset => Sys2Proof.Machine.execRdOor32_63 offset s
  | .rdOor64_127 offset => Sys2Proof.Machine.execRdOor64_127 offset s
  | .rdOor128_255 offset => Sys2Proof.Machine.execRdOor128_255 offset s
  -- register writes
  | .wrCcr value => Sys2Proof.Machine.execWrCcr value s
  | .wrDcr value => Sys2Proof.Machine.execWrDcr value s
  | .wrFcr value => Sys2Proof.Machine.execWrFcr value s
  | .wrPcr value => Sys2Proof.Machine.execWrPcr value s
  | .wrIder0 value => Sys2Proof.Machine.execWrIder0 value s
  | .wrIder1 value => Sys2Proof.Machine.execWrIder1 value s
  | .wrIsar value => Sys2Proof.Machine.execWrIsar value s
  | .wrOff7 value => Sys2Proof.Machine.execWrOff7 value s
  | .wrAbr r value => Sys2Proof.Machine.execWrAbr r value s
  | .wrIcrb0_7 k value => Sys2Proof.Machine.execWrIcrb0_7 k value s
  | .wrIcrb8_11 k value => Sys2Proof.Machine.execWrIcrb8_11 k value s
  | .wrRsv28_31 offset value => Sys2Proof.Machine.execWrRsv28_31 offset value s
  | .wrOor32_63 offset value => Sys2Proof.Machine.execWrOor32_63 offset value s
  | .wrOor64_127 offset value => Sys2Proof.Machine.execWrOor64_127 offset value s
  | .wrOor128_255 offset value => Sys2Proof.Machine.execWrOor128_255 offset value s
  -- source notifications and reset
  | .src0_15 index level => Sys2Proof.Machine.execSrc0_15 index level s
  | .src16_23 index level => Sys2Proof.Machine.execSrc16_23 index level s
  | .rst => Sys2Proof.Machine.execRst s

end Sys2Proof.Machine
end

