-- ==== Sys2Proof/Machine/Step.lean ====
section
/-! DEFINITION. One step: the next request of the timeline is decoded and performed (spec/20_memory.md R43).
With no request waiting the SCU does nothing (spec/70_reset_and_hazards.md R131). -/

namespace Sys2Proof.Machine

/-- One step. An input the spec gives no meaning is refused before any change of state
(spec/30_encoding.md R56, spec/60_exceptions.md R97). -/
def step (s : State) : Host.Outcome State Fault Refusal :=
  match s.pending with
  | [] => .next s
  | r :: rest =>
    match decodeRequest r with
    | .ok i => exec i (s.setPending rest)
    | .error why => .refused (.illFormedInput why)

/-- `s` with the stimulus word `w`, of `nbits` bits, issued next: it stands for an agent issuing that
operation (log entry 1). -/
def State.withFetchWord (s : State) (nbits w : Nat) : State :=
  s.setPending (.word (w % 2 ^ nbits) :: s.pending)

end Sys2Proof.Machine
end

