-- ==== Sys2Proof/Safety.lean ====
section
/-! DEFINITION. What counts as a safe run, in the terms the statements use: legal requests
(spec/30_encoding.md R56), the clock invariant (spec/10_state.md R17), the pulse discipline of the trace
(spec/42_source_router.md R94), and the wired environment (spec/60_exceptions.md R98). -/

namespace Sys2Proof.Machine

/-- The request lies within the defined domains (spec/30_encoding.md R56): nothing refuses it. -/
def legalRequest (r : Request) : Bool :=
  match decodeRequest r with
  | .ok _ => true
  | .error _ => false

/-- Every request still to come lies within the defined domains. -/
def State.allLegal (s : State) : Bool := s.pending.all legalRequest

/-- The frequency selected for the CPU is `clk_of(CCR)` (spec/10_state.md R17). -/
def State.clockTracksCcr (s : State) : Prop := s.clk = clkOf s.ccr

/-- Every assert in the trace has the clear of the same line immediately before it
(spec/42_source_router.md R94: "clear before assert, never the reverse, never an assert alone"). -/
def pulsesOnly (t : List Event) : Prop :=
  ∀ k n, t[k]? = some (.lineAssert n) → ∃ j, k = j + 1 ∧ t[j]? = some (.lineClear n)

/-- No event of the list touches a CPU line. -/
def noLineEvent (es : List Event) : Bool :=
  es.all fun
    | .setClock _ => true
    | .lineClear _ => false
    | .lineAssert _ => false

/-- No event of the list switches the clock. -/
def noClockEvent (es : List Event) : Bool :=
  es.all fun
    | .setClock _ => false
    | .lineClear _ => true
    | .lineAssert _ => true

/-- The source whose notification the operation is, with its level (spec/42_source_router.md R89). -/
def sourceOf : Instr → Option (SourceIndex × Level)
  | .src0_15 i l => some (i, l)
  | .src16_23 i l => some (i, l)
  | _ => none

/-- The line the operation acknowledges (spec/41_register_read.md R85). -/
def ackLine : Instr → Option LineNum
  | .rdIack1 => some 1#3
  | .rdIack2 => some 2#3
  | .rdIack3 => some 3#3
  | .rdIack4 => some 4#3
  | .rdIack5 => some 5#3
  | .rdIack6 => some 6#3
  | .rdIack7 => some 7#3
  | _ => none

/-- The ICR byte the operation writes, with its value (spec/40_register_write.md R69). -/
def icrByteWritten : Instr → Option (Fin 12 × Byte)
  | .wrIcrb0_7 k v => some (k, v)
  | .wrIcrb8_11 k v => some (k, v)
  | _ => none

/-- The request notifies no source outside `wired`, whichever way it is written. -/
def requestFromWired (wired : List Nat) (r : Request) : Bool :=
  match decodeRequest r with
  | .ok i =>
    match sourceOf i with
    | some (x, _) => wired.contains x.val
    | none => true
  | .error _ => true

/-- The environment drives only wired sources, and no unwired source is pending: "with the default `WIRED`
their ISR bits stay 0" (spec/60_exceptions.md R98). -/
def State.onlyWiredPending (wired : List Nat) (s : State) : Prop :=
  s.pending.all (requestFromWired wired) = true ∧
    ∀ i : SourceIndex, wired.contains i.val = false → isrBit s.isr i = false

/-- The two states agree on everything but the ABRs and the bytes read so far (spec/10_state.md R19). The
bytes a run adds are compared apart, by `agreeButAbrReads`. -/
def agreeButAbr (s t : State) : Prop :=
  s.ccr = t.ccr ∧ s.icr = t.icr ∧ s.isr = t.isr ∧ s.trace = t.trace ∧ s.pending = t.pending

/-- Is the operation a read, one that returns a byte (spec/41_register_read.md R72)? -/
def isRead : Instr → Bool
  | .rdCcr | .rdDcr | .rdFcr | .rdPcr | .rdIder0 | .rdIder1 | .rdIsar | .rdOff7 | .rdAbr _
  | .rdIsrHi | .rdIsrMid | .rdIsrLo | .rdIack1 | .rdIack2 | .rdIack3 | .rdIack4 | .rdIack5 | .rdIack6
  | .rdIack7 | .rdRsv26_27 _ | .rdRsv28_31 _ | .rdOor32_63 _ | .rdOor64_127 _ | .rdOor128_255 _ => true
  | .wrCcr _ | .wrDcr _ | .wrFcr _ | .wrPcr _ | .wrIder0 _ | .wrIder1 _ | .wrIsar _ | .wrOff7 _ | .wrAbr _ _
  | .wrIcrb0_7 _ _ | .wrIcrb8_11 _ _ | .wrRsv28_31 _ _ | .wrOor32_63 _ _ | .wrOor64_127 _ _
  | .wrOor128_255 _ _ | .src0_15 _ _ | .src16_23 _ _ | .rst => false

/-- The read a request is, if it is one, whichever way it is written. -/
def readOf (r : Request) : Option Instr :=
  match decodeRequest r with
  | .ok i => if isRead i then some i else none
  | .error _ => none

/-- The reads among the requests, in order. -/
def readsOf (rs : List Request) : List Instr := rs.filterMap readOf

/-- Two lists of one byte for each of the reads agree at every read but those of the ABRs' offsets
(spec/10_state.md R19). -/
def agreeButAbrReads (reads : List Instr) (bs bs' : List Byte) : Prop :=
  bs.length = reads.length ∧ bs'.length = reads.length ∧
    ∀ (k : Nat) (i : Instr), reads[k]? = some i → (∀ a, i ≠ .rdAbr a) → bs[k]? = bs'[k]?

end Sys2Proof.Machine
end

