-- ==== Sys2Proof/Certificates/Slice0/Obligations.lean ====
section
/-! DEFINITION. The statements for the provers. Each docstring says which rule of the spec it formalises;
a statement that rests on a decision of the spec or of the model says so. -/

open Sys2Proof Sys2Proof.Machine

/-! ## Decoding and the step -/

/-- Words written out from the spec's encodings decode to the operations they stand for, and the spec's
reserved words are refused by name (spec/95_test_vectors.md section 2.1, E1 to E27). -/
def Obligations.SampleWordsDecode : Prop :=
  decodeWord 0x00000#18 = .ok .rdCcr ∧
  decodeWord 0x00C00#18 = .ok (.rdAbr 4) ∧
  decodeWord 0x01700#18 = .ok .rdIack5 ∧
  decodeWord 0x06400#18 = .ok (.rdOor64_127 100) ∧
  decodeWord 0x10080#18 = .ok (.wrCcr 0x80#8) ∧
  decodeWord 0x108A5#18 = .ok (.wrAbr 0 0xA5#8) ∧
  decodeWord 0x11B9A#18 = .ok (.wrIcrb8_11 11 0x9A#8) ∧
  decodeWord 0x20301#18 = .ok (.src0_15 3 .asserted) ∧
  decodeWord 0x21000#18 = .ok (.src16_23 16 .deasserted) ∧
  decodeWord 0x30000#18 = .ok .rst ∧
  decodeWord 0x21801#18 = .error .sourceIndexOutOfRange ∧
  decodeWord 0x20302#18 = .error .sourceDataNotZero ∧
  decodeWord 0x00001#18 = .error .readDataNotZero ∧
  decodeWord 0x30100#18 = .error .resetFieldNotZero

/-- A step performs the next request of the timeline as its decoded operation on the rest of the timeline
(spec/20_memory.md R43), refuses an input outside the defined domains without a next state
(spec/30_encoding.md R56), and with no request waiting changes nothing (spec/70_reset_and_hazards.md R131).
The timeline `pending` is the model's own field (log entry 1). -/
def Obligations.StepPerformsTheNextRequest : Prop :=
  (∀ (s : State) (r : Request) (rest : List Request) (i : Instr),
    s.pending = r :: rest → decodeRequest r = .ok i → step s = exec i { s with pending := rest }) ∧
  (∀ (s : State) (r : Request) (rest : List Request) (why : Reject),
    s.pending = r :: rest → decodeRequest r = .error why → step s = .refused (.illFormedInput why)) ∧
  (∀ s : State, s.pending = [] → step s = .next s)

/-- The word the host places is the operation the very next step performs, and the rest of the timeline is
as before (log entry 1). -/
def Obligations.FetchedWordIsPerformed : Prop :=
  ∀ (s : State) (nbits w : Nat) (i : Instr),
    decodeTableWord nbits w = some i → step (s.withFetchWord nbits w) = exec i s

/-- Encoding then decoding gives the operation back: every well-formed operation that has a stimulus word,
with every operand at every value the word admits (spec/30_encoding.md R48, R49). -/
def Obligations.DecodeOfEncodeIsTheOperation : Prop :=
  ∀ i : Instr, i.wellFormed = true → i.fitsWord = true → decodeWord (encode i) = .ok i

/-- Decoding then encoding gives the word back, and decoding gives only well-formed operations: each word
has one meaning and no bit of it is dropped (spec/30_encoding.md R48, R49). -/
def Obligations.EncodeOfDecodeIsTheWord : Prop :=
  ∀ (w : StimWord) (i : Instr), decodeWord w = .ok i → encode i = w ∧ i.wellFormed = true ∧ i.fitsWord = true

/-- The same for requests, whose offsets are any natural number (spec/30_encoding.md R47). -/
def Obligations.RequestsAndOperationsCorrespond : Prop :=
  (∀ i : Instr, i.wellFormed = true → decodeRequest (requestOf i) = .ok i) ∧
  (∀ (r : Request) (i : Instr), (∀ w, r ≠ .word w) → decodeRequest r = .ok i →
    i.wellFormed = true ∧ requestOf i = r)

/-- No 18-bit word matches two rows of the opcode table (spec/30_encoding.md R49). -/
def Obligations.OpcodeRowsAreDisjoint : Prop :=
  ∀ (w : StimWord) (r r' : TableRow), r ∈ opcodeTable → r' ∈ opcodeTable →
    w &&& r.mask = r.pattern → w &&& r'.mask = r'.pattern → r = r'

/-- Every 18-bit word matches the row of the operation it decodes to, or is refused and matches no row
(spec/30_encoding.md R49). -/
def Obligations.EveryWordIsItsRowOrReserved : Prop :=
  ∀ w : StimWord,
    (∃ i, decodeWord w = .ok i ∧ i.row ∈ opcodeTable ∧ w &&& i.row.mask = i.row.pattern) ∨
    (∃ why, decodeWord w = .error why ∧ ∀ r ∈ opcodeTable, w &&& r.mask ≠ r.pattern)

/-- Exactly the spec's ill-formed inputs are refused (spec/30_encoding.md R49, R56; the spec's decisions D4,
D8 and D11): a read word with `d` not zero, a source index of 24 or more, a source word with bits 7:1 of
`d` not zero, a reset word with `a` or `d` not zero, and a wide access. A request made as a number is the
18-bit stimulus word it codes, and the host's view of the decoder reads the same; that a number of more than
18 bits is refused as `wordTooWide` is the model's choice (log entry 14). -/
def Obligations.ExactlyIllFormedInputsAreRefused : Prop :=
  (∀ w : StimWord, (∃ why, decodeWord w = .error why) ↔
    (w.extractLsb' 16 2 = 0#2 ∧ w.extractLsb' 0 8 ≠ 0#8) ∨
    (w.extractLsb' 16 2 = 2#2 ∧ (24 ≤ (w.extractLsb' 8 8).toNat ∨ w.extractLsb' 1 7 ≠ 0#7)) ∨
    (w.extractLsb' 16 2 = 3#2 ∧ (w.extractLsb' 8 8 ≠ 0#8 ∨ w.extractLsb' 0 8 ≠ 0#8))) ∧
  (∀ offset value, ∃ i j, decodeRequest (.read offset) = .ok i ∧ decodeRequest (.write offset value) = .ok j) ∧
  (∀ index level, (∃ i, decodeRequest (.source index level) = .ok i) ↔ index < 24) ∧
  (∃ i, decodeRequest .reset = .ok i) ∧
  (∀ offset, decodeRequest (.wideAccess offset) = .error .accessWiderThanByte) ∧
  (∀ n, n < 2 ^ 18 → decodeRequest (.word n) = decodeWord (BitVec.ofNat 18 n)) ∧
  (∀ n, 2 ^ 18 ≤ n → decodeRequest (.word n) = .error .wordTooWide) ∧
  (∀ nbits w i, decodeTableWord nbits w = some i ↔ decodeRequest (.word (w % 2 ^ nbits)) = .ok i)

/-- The CPU's bus access at `SCU_BASE + offset` is the read or write of that offset, whatever the base
(spec/20_memory.md R32; the model drops an address below the base, log entry 6). -/
def Obligations.BusAccessesReachTheirOffset : Prop :=
  (∀ (offset : Nat) (v : Byte), Request.ofBusRead (Config.scuBase + offset) = some (.read offset) ∧
    Request.ofBusWrite (Config.scuBase + offset) v = some (.write offset v)) ∧
  (∀ (address : Nat) (v : Byte), (Request.ofBusRead address = none ↔ address < Config.scuBase) ∧
    (Request.ofBusWrite address v = none ↔ address < Config.scuBase))

/-! ## Reset -/

/-- Every register is zero in the state after reset (spec/10_state.md R31, the registers' part). -/
def Obligations.ResetStateHasZeroRegisters : Prop :=
  State.reset.ccr = 0#8 ∧ (∀ i : Fin 8, State.reset.abr[i] = 0#8) ∧
  (∀ x : SourceIndex, State.reset.icr[x] = 0#4) ∧ State.reset.isr = 0#24

/-- The outputs after reset, by the spec's own decisions D14 and D15 (log entries 3 and 4): an empty trace,
all lines deasserted, table clock 0 selected (spec/70_reset_and_hazards.md R117, R118). -/
def Obligations.ResetStateHasQuietOutputs : Prop :=
  State.reset.trace = [] ∧ (∀ n, State.reset.line n = false) ∧ State.reset.clk = Config.clockTable 0#3

/-- The three invariants below hold in the state after reset (log entries 3, 4 and 7 for the outputs and the
wired set). -/
def Obligations.InvariantsHoldAtReset : Prop :=
  State.reset.clockTracksCcr ∧ pulsesOnly State.reset.trace ∧ State.reset.onlyWiredPending Config.wired

/-- `RST` from any state (spec/70_reset_and_hazards.md R116): all four entities to zero together. The read
data and the requests to come are the model's and stay (log entries 1, 2). -/
def Obligations.RstZeroesEveryRegister : Prop :=
  decodeRequest .reset = .ok .rst ∧ encode .rst = 0x30000#18 ∧
  ∀ s : State, ∃ t, exec .rst s = .next t ∧
    t.ccr = 0#8 ∧ (∀ i : Fin 8, t.abr[i] = 0#8) ∧ (∀ x : SourceIndex, t.icr[x] = 0#4) ∧ t.isr = 0#24 ∧
    t.readData = s.readData ∧ t.pending = s.pending

/-- After `RST` the trace is empty and every line deasserted (R117, decision D14, log entry 3); every read
of every offset returns 0x00; every source notification is a no-op; a second `RST` changes nothing
(spec/70_reset_and_hazards.md R119; spec/95_test_vectors.md T10). -/
def Obligations.AfterResetReadsAreZeroAndSourcesSilent : Prop :=
  ∀ s : State, ∃ t, exec .rst s = .next t ∧ t.trace = [] ∧ (∀ n, t.line n = false) ∧
    (∀ offset, ∃ i u, decodeRequest (.read offset) = .ok i ∧ exec i t = .next u ∧
      u.readData = s.readData ++ [0x00#8]) ∧
    (∀ x l, exec (.src0_15 x l) t = .next t ∧ exec (.src16_23 x l) t = .next t) ∧
    exec .rst t = .next t

/-! ## Register writes -/

/-- Write of offset 0 (spec/40_register_write.md R60): all 8 bits stored, exactly one `SetClock`, of the
default frequency when bit 7 is set and of the table entry bits 6:4 select otherwise; nothing else. -/
def Obligations.WrCcrStoresAndSwitchesClock : Prop :=
  ∀ (v : Byte) (s : State),
    decodeRequest (.write 0 v) = .ok (.wrCcr v) ∧ (encode (.wrCcr v)).toNat = 0x10000 + v.toNat ∧
    ∃ t, exec (.wrCcr v) s = .next t ∧ t.ccr = v ∧
      t.trace = s.trace ++
        [.setClock (if v.getLsbD 7 then Config.defaultClock else Config.clockTable (v.extractLsb' 4 3))] ∧
      t.abr = s.abr ∧ t.icr = s.icr ∧ t.isr = s.isr ∧ t.readData = s.readData ∧ t.pending = s.pending

/-- Writes of offsets 1..6 (spec/40_register_write.md R61 to R66): accepted, and nothing changes. Which name
goes with which offset is the spec's decision D18 (log entry 9). -/
def Obligations.PlaceholderWritesDoNothing : Prop :=
  ∀ p ∈ [(1, Instr.wrDcr), (2, Instr.wrFcr), (3, Instr.wrPcr), (4, Instr.wrIder0), (5, Instr.wrIder1),
      (6, Instr.wrIsar)], ∀ (v : Byte) (s : State),
    decodeRequest (.write p.1 v) = .ok (p.2 v) ∧
    (encode (p.2 v)).toNat = 0x10000 + 0x100 * p.1 + v.toNat ∧
    exec (p.2 v) s = .next s

/-- Write of offset 7: nothing changes. The spec's decision D5 (spec/40_register_write.md R67; log entry 8). -/
def Obligations.OffsetSevenWriteDoesNothing : Prop :=
  ∀ (v : Byte) (s : State),
    decodeRequest (.write 7 v) = .ok (.wrOff7 v) ∧ (encode (.wrOff7 v)).toNat = 0x10700 + v.toNat ∧
    exec (.wrOff7 v) s = .next s

/-- Writes of offsets 28..31 and of every offset of 32 or more, without bound: nothing changes
(spec/40_register_write.md R70, R71). -/
def Obligations.ReservedAndOutOfRangeWritesDoNothing : Prop :=
  ∀ (offset : Nat) (v : Byte), 28 ≤ offset → ∃ i, decodeRequest (.write offset v) = .ok i ∧
    (i = .wrRsv28_31 offset v ∨ i = .wrOor32_63 offset v ∨ i = .wrOor64_127 offset v ∨
      i = .wrOor128_255 offset v) ∧
    (i = .wrRsv28_31 offset v ↔ offset ≤ 31) ∧
    (offset ≤ 255 → (encode i).toNat = 0x10000 + 0x100 * offset + v.toNat) ∧
    ∀ s : State, exec i s = .next s

/-- Write of offset 8 + i (spec/40_register_write.md R68): that ABR alone takes the byte; no event. -/
def Obligations.WrAbrStoresOneRegister : Prop :=
  ∀ (i : Fin 8) (v : Byte) (s : State),
    decodeRequest (.write (8 + i.val) v) = .ok (.wrAbr i v) ∧
    (encode (.wrAbr i v)).toNat = 0x10800 + 0x100 * i.val + v.toNat ∧
    ∃ t, exec (.wrAbr i v) s = .next t ∧ t.abr[i] = v ∧ (∀ j : Fin 8, j ≠ i → t.abr[j] = s.abr[j]) ∧
      t.ccr = s.ccr ∧ t.icr = s.icr ∧ t.isr = s.isr ∧ t.trace = s.trace ∧ t.readData = s.readData ∧
      t.pending = s.pending

/-- Write of offset 16 + k, both rows (spec/40_register_write.md R69): entry 2k takes bits 7:4, entry 2k + 1
bits 3:0, every other entry, ISR and everything else is unchanged, and no event is emitted. -/
def Obligations.WrIcrWritesBothEntries : Prop :=
  ∀ (k : Fin 12) (v : Byte) (i : Instr), i = .wrIcrb0_7 k v ∨ i = .wrIcrb8_11 k v →
    decodeRequest (.write (16 + k.val) v) = .ok (if k.val < 8 then .wrIcrb0_7 k v else .wrIcrb8_11 k v) ∧
    (encode i).toNat = 0x11000 + 0x100 * k.val + v.toNat ∧
    ∀ s : State, ∃ t, exec i s = .next t ∧
      (∀ x : SourceIndex, t.icr[x] =
        if x.val = 2 * k.val then v.extractLsb' 4 4
        else if x.val = 2 * k.val + 1 then v.extractLsb' 0 4
        else s.icr[x]) ∧
      t.ccr = s.ccr ∧ t.abr = s.abr ∧ t.isr = s.isr ∧ t.trace = s.trace ∧ t.readData = s.readData ∧
      t.pending = s.pending

/-- What every write of every offset has in common (spec/40_register_write.md R59, spec/20_memory.md R38):
it completes; ISR and the line events are untouched; the only event is the one `SetClock` of offset 0;
offsets 1..7 and 28 up change nothing at all; at most one byte's worth of state changes; nothing is
returned; ISR is not read (with another ISR word the outcome is the same but for that word). That offset 7 is among the no-ops is the spec's decision D5 (log entry 8). -/
def Obligations.WritesOnlyStoreAndSwitchTheClock : Prop :=
  ∀ (offset : Nat) (v : Byte) (s : State), ∃ i t, decodeRequest (.write offset v) = .ok i ∧ exec i s = .next t ∧
    t.isr = s.isr ∧ t.readData = s.readData ∧ t.pending = s.pending ∧
    t.trace = s.trace ++ (if offset = 0 then [.setClock (clkOf v)] else []) ∧
    (offset ≠ 0 → ¬ (8 ≤ offset ∧ offset ≤ 27) → t = s) ∧
    (offset ≠ 0 → t.ccr = s.ccr) ∧
    (¬ (8 ≤ offset ∧ offset ≤ 15) → t.abr = s.abr) ∧
    (∀ j : Fin 8, offset ≠ 8 + j.val → t.abr[j] = s.abr[j]) ∧
    (∀ x : SourceIndex, offset ≠ 16 + x.val / 2 → t.icr[x] = s.icr[x]) ∧
    ∀ w : IsrWord, exec i { s with isr := w } = .next { t with isr := w }

/-! ## Register reads -/

/-- Read of offset 0 (spec/41_register_read.md R73): the stored byte, all 8 bits; nothing else changes. -/
def Obligations.RdCcrReturnsCcr : Prop :=
  decodeRequest (.read 0) = .ok .rdCcr ∧ encode .rdCcr = 0x00000#18 ∧
  ∀ s : State, ∃ t, exec .rdCcr s = .next t ∧ t.readData = s.readData ++ [s.ccr] ∧
    t.ccr = s.ccr ∧ t.abr = s.abr ∧ t.icr = s.icr ∧ t.isr = s.isr ∧ t.trace = s.trace ∧ t.pending = s.pending

/-- Reads of offsets 1..7 (spec/41_register_read.md R74 to R80): 0x00 and no other effect. Which name goes
with which of the offsets 1..6 is the spec's decision D18 (log entry 9). -/
def Obligations.PlaceholderReadsReturnZero : Prop :=
  ∀ p ∈ [(1, Instr.rdDcr), (2, Instr.rdFcr), (3, Instr.rdPcr), (4, Instr.rdIder0), (5, Instr.rdIder1),
      (6, Instr.rdIsar), (7, Instr.rdOff7)],
    decodeRequest (.read p.1) = .ok p.2 ∧ (encode p.2).toNat = 0x100 * p.1 ∧
    ∀ s : State, ∃ t, exec p.2 s = .next t ∧ t.readData = s.readData ++ [0x00#8] ∧
      t.ccr = s.ccr ∧ t.abr = s.abr ∧ t.icr = s.icr ∧ t.isr = s.isr ∧ t.trace = s.trace ∧ t.pending = s.pending

/-- Read of offset 8 + i (spec/41_register_read.md R81): that ABR; nothing else changes. -/
def Obligations.RdAbrReturnsItsRegister : Prop :=
  ∀ i : Fin 8, decodeRequest (.read (8 + i.val)) = .ok (.rdAbr i) ∧
    (encode (.rdAbr i)).toNat = 0x00800 + 0x100 * i.val ∧
    ∀ s : State, ∃ t, exec (.rdAbr i) s = .next t ∧ t.readData = s.readData ++ [s.abr[i]] ∧
      t.ccr = s.ccr ∧ t.abr = s.abr ∧ t.icr = s.icr ∧ t.isr = s.isr ∧ t.trace = s.trace ∧ t.pending = s.pending

/-- Reads of offsets 16, 17, 18 (spec/41_register_read.md R82 to R84): bit `b` of the byte is ISR bit
16 + b, 8 + b or b; nothing is cleared and no event is emitted. -/
def Obligations.RdIsrReturnsItsByte : Prop :=
  ∀ p ∈ [(16, Instr.rdIsrHi, 16), (17, Instr.rdIsrMid, 8), (18, Instr.rdIsrLo, 0)],
    decodeRequest (.read p.1) = .ok p.2.1 ∧ (encode p.2.1).toNat = 0x100 * p.1 ∧
    ∀ s : State, ∃ t v, exec p.2.1 s = .next t ∧ t.readData = s.readData ++ [v] ∧
      (∀ b, b < 8 → v.getLsbD b = s.isr.getLsbD (p.2.2 + b)) ∧
      t.ccr = s.ccr ∧ t.abr = s.abr ∧ t.icr = s.icr ∧ t.isr = s.isr ∧ t.trace = s.trace ∧ t.pending = s.pending

/-- Reads of offsets 26 up, without bound (spec/41_register_read.md R86 to R88): 0x00 and no other effect. -/
def Obligations.ReservedAndOutOfRangeReadsReturnZero : Prop :=
  ∀ offset : Nat, 26 ≤ offset → ∃ i, decodeRequest (.read offset) = .ok i ∧
    (i = .rdRsv26_27 offset ∨ i = .rdRsv28_31 offset ∨ i = .rdOor32_63 offset ∨ i = .rdOor64_127 offset ∨
      i = .rdOor128_255 offset) ∧
    (offset ≤ 255 → (encode i).toNat = 0x100 * offset) ∧
    ∀ s : State, ∃ t, exec i s = .next t ∧ t.readData = s.readData ++ [0x00#8] ∧
      t.ccr = s.ccr ∧ t.abr = s.abr ∧ t.icr = s.icr ∧ t.isr = s.isr ∧ t.trace = s.trace ∧ t.pending = s.pending

/-- The rows of reserved and out-of-range offsets complete with their one effect whatever offset they carry:
a write with none, a read returning 0x00 (spec/40_register_write.md R70, R71; spec/41_register_read.md R86
to R88). An offset outside the row is ill-formed and never decoded (log entry 17). -/
def Obligations.ReservedRowsCompleteForEveryOffset : Prop :=
  ∀ (offset : Nat) (v : Byte) (s : State),
    exec (.wrRsv28_31 offset v) s = .next s ∧ exec (.wrOor32_63 offset v) s = .next s ∧
    exec (.wrOor64_127 offset v) s = .next s ∧ exec (.wrOor128_255 offset v) s = .next s ∧
    ∀ i ∈ [Instr.rdRsv26_27 offset, .rdRsv28_31 offset, .rdOor32_63 offset, .rdOor64_127 offset,
        .rdOor128_255 offset], exec i s = .next { s with readData := s.readData ++ [0x00#8] }

/-- An offset of 32 or more is absorbed on both sides, with no wrap-around (spec/20_memory.md R40): the read
returns 0 and changes nothing, the write changes nothing. -/
def Obligations.OutOfRangeOffsetsAreAbsorbed : Prop :=
  ∀ (offset : Nat) (v : Byte), 32 ≤ offset → ∃ i j,
    decodeRequest (.read offset) = .ok i ∧ decodeRequest (.write offset v) = .ok j ∧
    ∀ s : State, exec i s = .next { s with readData := s.readData ++ [0x00#8] } ∧ exec j s = .next s

/-- Every read other than an acknowledge hands over one byte and changes nothing; performed again with
nothing in between it hands over the same byte (spec/20_memory.md R37, spec/95_test_vectors.md T1). -/
def Obligations.PlainReadsAreRepeatable : Prop :=
  ∀ offset : Nat, ¬ (19 ≤ offset ∧ offset ≤ 25) → ∃ i, decodeRequest (.read offset) = .ok i ∧
    ∀ s : State, ∃ t u b, exec i s = .next t ∧ exec i t = .next u ∧
      t = { s with readData := s.readData ++ [b] } ∧ u = { s with readData := s.readData ++ [b, b] }

/-- Only offsets 0 and 8..15 read back the byte written to them, whatever it is. At the acknowledge offsets
the byte read is a count of at most 24, so no byte above 24 is read back (spec/30_encoding.md R54,
spec/41_register_read.md R85 corner case d); at every other offset the byte read does not depend on the byte
written (spec/20_memory.md R39, spec/95_test_vectors.md T9). -/
def Obligations.OnlyStorageOffsetsReadBack : Prop :=
  ∀ (offset : Nat) (s : State),
    ∃ j b, decodeRequest (.read offset) = .ok j ∧ ∀ v : Byte, ∃ i t u c,
      decodeRequest (.write offset v) = .ok i ∧ exec i s = .next t ∧ exec j t = .next u ∧
      u.readData = s.readData ++ [c] ∧
      if offset = 0 ∨ (8 ≤ offset ∧ offset ≤ 15) then c = v
      else if 19 ≤ offset ∧ offset ≤ 25 then c.toNat ≤ 24
      else c = b

/-- At an acknowledge offset the byte read CAN depend on the byte written there: the write of offset 19
enables two sources on line 1, and the read of offset 19 counts line 1's sources. The closing words of
spec/95_test_vectors.md T9 overlook this; R69 and R85 give it. The sources are enabled, so both counts are
the same under the two readings of the acknowledge test (the spec's decision D10, log entry 10). -/
def Obligations.AcknowledgeCountSeesTheByteWritten : Prop :=
  ∃ t u t' u', exec (.wrIcrb0_7 3 0x99#8) State.reset = .next t ∧ exec .rdIack1 t = .next u ∧
    exec (.wrIcrb0_7 3 0x00#8) State.reset = .next t' ∧ exec .rdIack1 t' = .next u' ∧
    u.readData = [2#8] ∧ u'.readData = [0#8]

/-! ## The acknowledge read -/

/-- Reads of offsets 19..25, the acknowledge of lines 1..7 (spec/41_register_read.md R85): the ISR bit of
every source whose line select is the line is cleared, the others kept; one `LineClear`; the byte returned
is the number of such sources, whether enabled or pending or not; nothing else changes. That the enable bit
is not tested is the spec's decision D10 between two of its source's passages (log entry 10). -/
def Obligations.AcknowledgeClearsAndCountsItsLine : Prop :=
  ∀ p ∈ [(1#3, Instr.rdIack1), (2#3, Instr.rdIack2), (3#3, Instr.rdIack3), (4#3, Instr.rdIack4),
      (5#3, Instr.rdIack5), (6#3, Instr.rdIack6), (7#3, Instr.rdIack7)],
    decodeRequest (.read (18 + p.1.toNat)) = .ok p.2 ∧ (encode p.2).toNat = 0x01200 + 0x100 * p.1.toNat ∧
    ∀ s : State, ∃ t v, exec p.2 s = .next t ∧
      (∀ x : SourceIndex, isrBit t.isr x = if s.icr[x].extractLsb' 0 3 = p.1 then false else isrBit s.isr x) ∧
      t.trace = s.trace ++ [.lineClear p.1] ∧
      t.readData = s.readData ++ [v] ∧
      v.toNat = (List.finRange 24).countP (fun x => s.icr[x].extractLsb' 0 3 == p.1) ∧ v.toNat ≤ 24 ∧
      t.ccr = s.ccr ∧ t.abr = s.abr ∧ t.icr = s.icr ∧ t.pending = s.pending

/-- The seven counts, taken with no ICR write in between, and the sources on line 0 make up all 24
(spec/41_register_read.md R85 corner case d; by the spec's decision D10, log entry 10). -/
def Obligations.AcknowledgeCountsPartitionTheSources : Prop :=
  ∀ (icr : Vector IcrEntry 24) (isr : Fin 7 → IsrWord),
    ((List.finRange 7).map fun l =>
        (ackLoop ackTestsEnable icr (BitVec.ofNat 3 (l.val + 1)) (isr l)).2).sum +
      (List.finRange 24).countP (fun x => icr[x].extractLsb' 0 3 == 0#3) = 24

/-- A second acknowledge of the same line with nothing in between returns the same count, clears nothing
more and emits a second `LineClear` (spec/41_register_read.md R85 corner case g). -/
def Obligations.RepeatedAcknowledgeReturnsTheSameCount : Prop :=
  ∀ (i : Instr) (n : LineNum) (s : State), ackLine i = some n → ∃ t u b,
    exec i s = .next t ∧ exec i t = .next u ∧ u.isr = t.isr ∧
    t.readData = s.readData ++ [b] ∧ u.readData = s.readData ++ [b, b] ∧
    u.trace = s.trace ++ [.lineClear n, .lineClear n]

/-- A source routed to line 0 is cleared by no read of any offset (spec/41_register_read.md R85 corner case
e, spec/70_reset_and_hazards.md R127). -/
def Obligations.LineZeroSourceIsNeverAcknowledged : Prop :=
  ∀ (offset : Nat) (s : State) (x : SourceIndex), s.icr[x].extractLsb' 0 3 = 0#3 →
    ∃ i t, decodeRequest (.read offset) = .ok i ∧ exec i s = .next t ∧ isrBit t.isr x = isrBit s.isr x

/-- The spec's two readings of the acknowledge test (spec/90_conflicts.md C2, spec/92_eei_decisions.md D10)
agree, in ISR and in count, whenever every source routed to the line is enabled; and whatever the switch,
the sources of other lines keep their bits. -/
def Obligations.AcknowledgeReadingsAgreeOnEnabledSources : Prop :=
  ∀ (icr : Vector IcrEntry 24) (n : LineNum) (isr : IsrWord),
    ((∀ x : SourceIndex, icr[x].extractLsb' 0 3 = n → icr[x].getLsbD 3 = true) →
      ackLoop true icr n isr = ackLoop false icr n isr) ∧
    (∀ (switch : Bool) (x : SourceIndex), icr[x].extractLsb' 0 3 ≠ n →
      isrBit (ackLoop switch icr n isr).1 x = isrBit isr x)

/-! ## Source notifications -/

/-- A notification reaches the row of its index, and its word is as the spec gives it; an index of 24 or
more is refused, by the spec's decision D8 (spec/42_source_router.md R89, R90; spec/30_encoding.md R56). -/
def Obligations.NotificationsSelectTheirSource : Prop :=
  (∀ (x : SourceIndex) (l : Level),
    decodeRequest (.source x.val l) = .ok (if x.val ≤ 15 then .src0_15 x l else .src16_23 x l) ∧
    (encode (.src0_15 x l)).toNat = 0x20000 + 0x100 * x.val + l.bit.toNat ∧
    (encode (.src16_23 x l)).toNat = 0x20000 + 0x100 * x.val + l.bit.toNat) ∧
  (∀ (index : Nat) (l : Level), 24 ≤ index →
    decodeRequest (.source index l) = .error .sourceIndexOutOfRange)

/-- A notification of a disabled source does nothing at all, for either level (spec/42_source_router.md R91). -/
def Obligations.DisabledSourceIsIgnored : Prop :=
  ∀ (x : SourceIndex) (l : Level) (i : Instr) (s : State), i = .src0_15 x l ∨ i = .src16_23 x l →
    s.icr[x].getLsbD 3 = false → exec i s = .next s

/-- An enabled source asserted (spec/42_source_router.md R92): its ISR bit becomes 1, exactly `LineClear(n)`
then `LineAssert(n)` are emitted, line `n` is left asserted; no other ISR bit, line or register changes. -/
def Obligations.EnabledSourceAsserts : Prop :=
  ∀ (x : SourceIndex) (i : Instr) (s : State), i = .src0_15 x .asserted ∨ i = .src16_23 x .asserted →
    s.icr[x].getLsbD 3 = true → ∃ t, exec i s = .next t ∧
      isrBit t.isr x = true ∧ (∀ y : SourceIndex, y ≠ x → isrBit t.isr y = isrBit s.isr y) ∧
      t.trace = s.trace ++ [.lineClear (s.icr[x].extractLsb' 0 3), .lineAssert (s.icr[x].extractLsb' 0 3)] ∧
      (∀ n, t.line n = if n = s.icr[x].extractLsb' 0 3 then true else s.line n) ∧
      t.ccr = s.ccr ∧ t.abr = s.abr ∧ t.icr = s.icr ∧ t.readData = s.readData ∧ t.pending = s.pending

/-- An enabled source deasserted (spec/42_source_router.md R93): its ISR bit becomes 0, exactly
`LineClear(n)` is emitted, line `n` is left deasserted whatever the other sources' bits; no other ISR bit,
line or register changes. -/
def Obligations.EnabledSourceDeasserts : Prop :=
  ∀ (x : SourceIndex) (i : Instr) (s : State), i = .src0_15 x .deasserted ∨ i = .src16_23 x .deasserted →
    s.icr[x].getLsbD 3 = true → ∃ t, exec i s = .next t ∧
      isrBit t.isr x = false ∧ (∀ y : SourceIndex, y ≠ x → isrBit t.isr y = isrBit s.isr y) ∧
      t.trace = s.trace ++ [.lineClear (s.icr[x].extractLsb' 0 3)] ∧
      (∀ n, t.line n = if n = s.icr[x].extractLsb' 0 3 then false else s.line n) ∧
      t.ccr = s.ccr ∧ t.abr = s.abr ∧ t.icr = s.icr ∧ t.readData = s.readData ∧ t.pending = s.pending

/-- A second assertion of an enabled source changes nothing in ISR and pulses the source's own line, the one
its ICR entry selects, again (spec/42_source_router.md R95, spec/60_exceptions.md R108). -/
def Obligations.RepeatedAssertionPulsesAgain : Prop :=
  ∀ (i : Instr) (x : SourceIndex) (s : State), sourceOf i = some (x, .asserted) →
    s.icr[x].getLsbD 3 = true → ∃ t u n, n = s.icr[x].extractLsb' 0 3 ∧
      exec i s = .next t ∧ exec i t = .next u ∧ u.isr = t.isr ∧
      u.trace = s.trace ++ [.lineClear n, .lineAssert n, .lineClear n, .lineAssert n]

/-! ## Whole-machine rules -/

/-- Every operation completes from every state: nothing faults, blocks or is refused
(spec/60_exceptions.md R96, R97; spec/95_test_vectors.md T11). -/
def Obligations.EveryOperationCompletes : Prop :=
  ∀ (i : Instr) (s : State), ∃ t, exec i s = .next t

/-- Who may change what, the complete list (spec/10_state.md R14). -/
def Obligations.OnlyTheListedOperationsChangeState : Prop :=
  ∀ (i : Instr) (s t : State), exec i s = .next t →
    (t.ccr ≠ s.ccr → i = .rst ∨ ∃ v, i = .wrCcr v) ∧
    (∀ j : Fin 8, t.abr[j] ≠ s.abr[j] → i = .rst ∨ ∃ v, i = .wrAbr j v) ∧
    (∀ x : SourceIndex, t.icr[x] ≠ s.icr[x] → i = .rst ∨
      ∃ k v, (i = .wrIcrb0_7 k v ∨ i = .wrIcrb8_11 k v) ∧ k.val = x.val / 2) ∧
    (∀ x : SourceIndex, isrBit t.isr x ≠ isrBit s.isr x → i = .rst ∨
      (∃ l, sourceOf i = some (x, l) ∧ s.icr[x].getLsbD 3 = true) ∨
      ackLine i = some (s.icr[x].extractLsb' 0 3))

/-- What becomes of an ISR bit under every operation (spec/10_state.md R24): it takes the level of an enabled
notification of its source, is cleared by an acknowledge of its line and by reset, and nothing else
changes it. The acknowledge's test and the sampled enable are the spec's decisions D10 and D22 (log entries
10, 11). -/
def Obligations.IsrBitFollowsItsRule : Prop :=
  ∀ (i : Instr) (s : State), ∃ t, exec i s = .next t ∧ ∀ x : SourceIndex,
    (∀ l, sourceOf i = some (x, l) → s.icr[x].getLsbD 3 = true → isrBit t.isr x = l.bit) ∧
    (ackLine i = some (s.icr[x].extractLsb' 0 3) → isrBit t.isr x = false) ∧
    (i = .rst → isrBit t.isr x = false) ∧
    ((∀ l, sourceOf i = some (x, l) → s.icr[x].getLsbD 3 = false) →
      ackLine i ≠ some (s.icr[x].extractLsb' 0 3) → i ≠ .rst → isrBit t.isr x = isrBit s.isr x)

/-- The level of every line after every operation (spec/10_state.md R30, a derived quantity, the spec's
decision D12): reset and an acknowledge of the line leave it deasserted, an enabled notification routed to
it leaves it at the level, and nothing else moves it. -/
def Obligations.LineLevelFollowsItsRule : Prop :=
  ∀ (i : Instr) (s : State) (n : LineNum), ∃ t, exec i s = .next t ∧
    (i = .rst → t.line n = false) ∧
    (ackLine i = some n → t.line n = false) ∧
    (∀ x l, sourceOf i = some (x, l) → s.icr[x].getLsbD 3 = true → s.icr[x].extractLsb' 0 3 = n →
      t.line n = l.bit) ∧
    ((∀ x l, sourceOf i = some (x, l) → s.icr[x].getLsbD 3 = true → s.icr[x].extractLsb' 0 3 ≠ n) →
      ackLine i ≠ some n → i ≠ .rst → t.line n = s.line n)

/-- The only operation that switches the clock is the write of offset 0, once per write
(spec/40_register_write.md R60, spec/95_test_vectors.md T8). -/
def Obligations.OnlyCcrWritesSwitchTheClock : Prop :=
  ∀ (i : Instr) (s t : State), exec i s = .next t → i ≠ .rst →
    ∃ es, t.trace = s.trace ++ es ∧
      (∀ v, i = .wrCcr v → es = [.setClock (clkOf v)]) ∧ ((∀ v, i ≠ .wrCcr v) → noClockEvent es = true)

/-- A masked source's pending bit is cleared by nothing but an acknowledge of its line or a reset
(spec/70_reset_and_hazards.md R128). -/
def Obligations.MaskedPendingBitStays : Prop :=
  ∀ (i : Instr) (s t : State) (x : SourceIndex), exec i s = .next t → s.icr[x].getLsbD 3 = false →
    isrBit s.isr x = true → isrBit t.isr x = false → i = .rst ∨ ackLine i = some (s.icr[x].extractLsb' 0 3)

/-- The selected clock is `clk_of(CCR)`: kept by every step (spec/10_state.md R17). That it holds after reset
is the spec's decision D15 (log entry 4). -/
def Obligations.StepKeepsClockTrackingCcr : Prop :=
  ∀ s t : State, s.clockTracksCcr → step s = .next t → t.clockTracksCcr

/-- No line is ever asserted in the trace without its clear immediately before: kept by every step
(spec/42_source_router.md R94, spec/95_test_vectors.md T7). -/
def Obligations.StepKeepsAssertsPulsed : Prop :=
  ∀ s t : State, pulsesOnly s.trace → step s = .next t → pulsesOnly t.trace

/-- With an environment that drives only wired sources, the ISR bits of the others stay 0: kept by every
step, for every wired set (spec/60_exceptions.md R98; the wired set is the spec's decision D9, log entry 7). -/
def Obligations.StepKeepsUnwiredSourcesQuiet : Prop :=
  ∀ (wired : List Nat) (s t : State), s.onlyWiredPending wired → step s = .next t → t.onlyWiredPending wired

/-- A timeline of legal requests is performed to its end: no run of it ever stops, and as many steps as there
are requests leave none waiting (spec/00_scope.md R8, spec/20_memory.md R43). -/
def Obligations.LegalTimelineIsPerformedToItsEnd : Prop :=
  ∀ s : State, s.allLegal = true →
    (∀ n, ∃ t : State, Host.Core.run Sys2Proof.core n s = .next t ∧ t.allLegal = true ∧
      t.pending = s.pending.drop n)

/-- The ABRs affect nothing but the reads of their own offsets (spec/10_state.md R19): two runs of any
length from states that differ only there, and in what was read before, stay in step and stop alike, and the
bytes they hand over, one for each read performed, differ at reads of offsets 8..15 only. -/
def Obligations.AbrsAffectNothingElse : Prop :=
  ∀ (n : Nat) (s s' : State), agreeButAbr s s' →
    (∃ (t t' : State) (bs bs' : List Byte),
      Host.Core.run Sys2Proof.core n s = .next t ∧ Host.Core.run Sys2Proof.core n s' = .next t' ∧
      agreeButAbr t t' ∧ t.readData = s.readData ++ bs ∧ t'.readData = s'.readData ++ bs' ∧
      agreeButAbrReads (readsOf (s.pending.take n)) bs bs') ∨
    (∃ r : Refusal, Host.Core.run Sys2Proof.core n s = .refused r ∧ Host.Core.run Sys2Proof.core n s' = .refused r)

/-! ## Hazards -/

/-- A notification lost while its source is disabled is not recovered by enabling the source afterwards: no
bit, no event (spec/70_reset_and_hazards.md R121). -/
def Obligations.LostNotificationIsNotRecovered : Prop :=
  ∀ (s : State) (x : SourceIndex) (v : Byte), s.icr[x].getLsbD 3 = false → isrBit s.isr x = false →
    ∃ i j t u, decodeRequest (.source x.val .asserted) = .ok i ∧ exec i s = .next t ∧
      decodeRequest (.write (16 + x.val / 2) v) = .ok j ∧ exec j t = .next u ∧
      isrBit u.isr x = false ∧ u.trace = s.trace

/-- On a shared line, the deassertion of one source leaves the line deasserted although the other is still
pending (spec/70_reset_and_hazards.md R122). -/
def Obligations.SharedLineDeassertHidesPendingSource : Prop :=
  ∀ (s : State) (x y : SourceIndex), x ≠ y → s.icr[x].getLsbD 3 = true →
    s.icr[x].extractLsb' 0 3 = s.icr[y].extractLsb' 0 3 → isrBit s.isr y = true →
    ∃ i t, decodeRequest (.source x.val .deasserted) = .ok i ∧ exec i s = .next t ∧
      isrBit t.isr y = true ∧ t.line (s.icr[y].extractLsb' 0 3) = false

/-- Re-routing a pending source leaves its old line asserted, and the source's later deassertion clears the
new line, not the old one (spec/70_reset_and_hazards.md R124). -/
def Obligations.ReroutedSourceLeavesOldLineAsserted : Prop :=
  ∀ (s : State) (x : SourceIndex) (v : Byte) (e : IcrEntry) (rest : List Request),
    e = (if x.val % 2 = 0 then v.extractLsb' 4 4 else v.extractLsb' 0 4) →
    s.icr[x].getLsbD 3 = true → e.getLsbD 3 = true → e.extractLsb' 0 3 ≠ s.icr[x].extractLsb' 0 3 →
    s.pending = [.source x.val .asserted, .write (16 + x.val / 2) v, .source x.val .deasserted] ++ rest →
    ∃ t u : State, Host.Core.run Sys2Proof.core 2 s = .next t ∧ Host.Core.run Sys2Proof.core 3 s = .next u ∧
      isrBit t.isr x = true ∧ t.line (s.icr[x].extractLsb' 0 3) = true ∧
      t.line (e.extractLsb' 0 3) = s.line (e.extractLsb' 0 3) ∧
      isrBit u.isr x = false ∧ u.line (s.icr[x].extractLsb' 0 3) = true ∧ u.line (e.extractLsb' 0 3) = false

/-! ## Pseudo-operations -/

/-- `RDISR`, with nothing in between, hands over the whole ISR, high byte first, and changes nothing
(spec/30_encoding.md R58, spec/20_memory.md R34). -/
def Obligations.RdIsrSequenceReturnsIsr : Prop :=
  ∀ (s : State) (rest : List Request), s.pending = pseudoRdIsr ++ rest →
    ∃ (t : State) (b16 b17 b18 : Byte), Host.Core.run Sys2Proof.core 3 s = .next t ∧
      t = { s with pending := rest, readData := s.readData ++ [b16, b17, b18] } ∧
      b16.toNat * 0x10000 + b17.toNat * 0x100 + b18.toNat = s.isr.toNat

/-- `ICRSET` sets the entry of its source and the stated neighbour's, and no other (spec/30_encoding.md R58). -/
def Obligations.IcrSetWritesItsEntryAndNeighbour : Prop :=
  ∀ (x : SourceIndex) (n m : IcrEntry) (s : State), ∃ i t, decodeRequest (pseudoIcrSet x n m) = .ok i ∧
    exec i s = .next t ∧
    (∀ y : SourceIndex, t.icr[y] = if y = x then n else if y.val / 2 = x.val / 2 then m else s.icr[y]) ∧
    t.ccr = s.ccr ∧ t.abr = s.abr ∧ t.isr = s.isr ∧ t.trace = s.trace ∧ t.readData = s.readData ∧
    t.pending = s.pending

/-- `CLKSEL j` selects table entry `j`, `CLKDEF` the default, and `IACK L`, `L` in 1..7, is the acknowledge
of line `L` (spec/30_encoding.md R58). -/
def Obligations.ClockAndAcknowledgePseudoOperations : Prop :=
  (∀ (j : BitVec 3) (s : State), ∃ i t, decodeRequest (pseudoClkSel j) = .ok i ∧ exec i s = .next t ∧
    t.trace = s.trace ++ [.setClock (Config.clockTable j)] ∧ t.clk = Config.clockTable j) ∧
  (∀ s : State, ∃ i t, decodeRequest pseudoClkDef = .ok i ∧ exec i s = .next t ∧
    t.trace = s.trace ++ [.setClock Config.defaultClock] ∧ t.clk = Config.defaultClock) ∧
  (∀ n : LineNum, n ≠ 0#3 → ∃ i, decodeRequest (pseudoIack n) = .ok i ∧ ackLine i = some n)
end

