-- ==== Sys2Proof/Laws/State.lean ====
section
/-! SUPPORT. One lemma per field per update of `State`, true by unfolding, so that no later proof unfolds
a record update. -/

namespace Sys2Proof.Machine

variable (s : State)

@[simp] theorem State.emit_ccr (e : Event) : (s.emit e).ccr = s.ccr := rfl
@[simp] theorem State.emit_abr (e : Event) : (s.emit e).abr = s.abr := rfl
@[simp] theorem State.emit_icr (e : Event) : (s.emit e).icr = s.icr := rfl
@[simp] theorem State.emit_isr (e : Event) : (s.emit e).isr = s.isr := rfl
@[simp] theorem State.emit_trace (e : Event) : (s.emit e).trace = s.trace ++ [e] := rfl
@[simp] theorem State.emit_readData (e : Event) : (s.emit e).readData = s.readData := rfl
@[simp] theorem State.emit_pending (e : Event) : (s.emit e).pending = s.pending := rfl

@[simp] theorem State.deliver_ccr (v : Byte) : (s.deliver v).ccr = s.ccr := rfl
@[simp] theorem State.deliver_abr (v : Byte) : (s.deliver v).abr = s.abr := rfl
@[simp] theorem State.deliver_icr (v : Byte) : (s.deliver v).icr = s.icr := rfl
@[simp] theorem State.deliver_isr (v : Byte) : (s.deliver v).isr = s.isr := rfl
@[simp] theorem State.deliver_trace (v : Byte) : (s.deliver v).trace = s.trace := rfl
@[simp] theorem State.deliver_readData (v : Byte) : (s.deliver v).readData = s.readData ++ [v] := rfl
@[simp] theorem State.deliver_pending (v : Byte) : (s.deliver v).pending = s.pending := rfl

@[simp] theorem State.setCcr_ccr (v : Byte) : (s.setCcr v).ccr = v := rfl
@[simp] theorem State.setCcr_abr (v : Byte) : (s.setCcr v).abr = s.abr := rfl
@[simp] theorem State.setCcr_icr (v : Byte) : (s.setCcr v).icr = s.icr := rfl
@[simp] theorem State.setCcr_isr (v : Byte) : (s.setCcr v).isr = s.isr := rfl
@[simp] theorem State.setCcr_trace (v : Byte) : (s.setCcr v).trace = s.trace := rfl
@[simp] theorem State.setCcr_readData (v : Byte) : (s.setCcr v).readData = s.readData := rfl
@[simp] theorem State.setCcr_pending (v : Byte) : (s.setCcr v).pending = s.pending := rfl

@[simp] theorem State.setAbr_ccr (i : Fin 8) (v : Byte) : (s.setAbr i v).ccr = s.ccr := rfl
@[simp] theorem State.setAbr_abr (i : Fin 8) (v : Byte) : (s.setAbr i v).abr = s.abr.set i v := rfl
@[simp] theorem State.setAbr_icr (i : Fin 8) (v : Byte) : (s.setAbr i v).icr = s.icr := rfl
@[simp] theorem State.setAbr_isr (i : Fin 8) (v : Byte) : (s.setAbr i v).isr = s.isr := rfl
@[simp] theorem State.setAbr_trace (i : Fin 8) (v : Byte) : (s.setAbr i v).trace = s.trace := rfl
@[simp] theorem State.setAbr_readData (i : Fin 8) (v : Byte) : (s.setAbr i v).readData = s.readData := rfl
@[simp] theorem State.setAbr_pending (i : Fin 8) (v : Byte) : (s.setAbr i v).pending = s.pending := rfl

@[simp] theorem State.setIcr_ccr (i : SourceIndex) (e : IcrEntry) : (s.setIcr i e).ccr = s.ccr := rfl
@[simp] theorem State.setIcr_abr (i : SourceIndex) (e : IcrEntry) : (s.setIcr i e).abr = s.abr := rfl
@[simp] theorem State.setIcr_icr (i : SourceIndex) (e : IcrEntry) : (s.setIcr i e).icr = s.icr.set i e := rfl
@[simp] theorem State.setIcr_isr (i : SourceIndex) (e : IcrEntry) : (s.setIcr i e).isr = s.isr := rfl
@[simp] theorem State.setIcr_trace (i : SourceIndex) (e : IcrEntry) : (s.setIcr i e).trace = s.trace := rfl
@[simp] theorem State.setIcr_readData (i : SourceIndex) (e : IcrEntry) : (s.setIcr i e).readData = s.readData := rfl
@[simp] theorem State.setIcr_pending (i : SourceIndex) (e : IcrEntry) : (s.setIcr i e).pending = s.pending := rfl

@[simp] theorem State.setIsr_ccr (w : IsrWord) : (s.setIsr w).ccr = s.ccr := rfl
@[simp] theorem State.setIsr_abr (w : IsrWord) : (s.setIsr w).abr = s.abr := rfl
@[simp] theorem State.setIsr_icr (w : IsrWord) : (s.setIsr w).icr = s.icr := rfl
@[simp] theorem State.setIsr_isr (w : IsrWord) : (s.setIsr w).isr = w := rfl
@[simp] theorem State.setIsr_trace (w : IsrWord) : (s.setIsr w).trace = s.trace := rfl
@[simp] theorem State.setIsr_readData (w : IsrWord) : (s.setIsr w).readData = s.readData := rfl
@[simp] theorem State.setIsr_pending (w : IsrWord) : (s.setIsr w).pending = s.pending := rfl

@[simp] theorem State.setPending_ccr (rs : List Request) : (s.setPending rs).ccr = s.ccr := rfl
@[simp] theorem State.setPending_abr (rs : List Request) : (s.setPending rs).abr = s.abr := rfl
@[simp] theorem State.setPending_icr (rs : List Request) : (s.setPending rs).icr = s.icr := rfl
@[simp] theorem State.setPending_isr (rs : List Request) : (s.setPending rs).isr = s.isr := rfl
@[simp] theorem State.setPending_trace (rs : List Request) : (s.setPending rs).trace = s.trace := rfl
@[simp] theorem State.setPending_readData (rs : List Request) : (s.setPending rs).readData = s.readData := rfl
@[simp] theorem State.setPending_pending (rs : List Request) : (s.setPending rs).pending = rs := rfl

@[simp] theorem State.resetRegisters_ccr : s.resetRegisters.ccr = 0#8 := rfl
@[simp] theorem State.resetRegisters_abr : s.resetRegisters.abr = Vector.replicate 8 0#8 := rfl
@[simp] theorem State.resetRegisters_icr : s.resetRegisters.icr = Vector.replicate 24 0#4 := rfl
@[simp] theorem State.resetRegisters_isr : s.resetRegisters.isr = 0#24 := rfl
@[simp] theorem State.resetRegisters_trace : s.resetRegisters.trace = [] := rfl
@[simp] theorem State.resetRegisters_readData : s.resetRegisters.readData = s.readData := rfl
@[simp] theorem State.resetRegisters_pending : s.resetRegisters.pending = s.pending := rfl

@[simp] theorem State.reset_ccr : State.reset.ccr = 0#8 := rfl
@[simp] theorem State.reset_abr : State.reset.abr = Vector.replicate 8 0#8 := rfl
@[simp] theorem State.reset_icr : State.reset.icr = Vector.replicate 24 0#4 := rfl
@[simp] theorem State.reset_isr : State.reset.isr = 0#24 := rfl
@[simp] theorem State.reset_trace : State.reset.trace = [] := rfl
@[simp] theorem State.reset_readData : State.reset.readData = [] := rfl
@[simp] theorem State.reset_pending : State.reset.pending = [] := rfl

end Sys2Proof.Machine
end

