-- ==== Sys2Proof/Laws/Encoding.lean ====
section
/-! SUPPORT. The fields of a stimulus word that was put together from its parts, and its value as a number
(spec/30_encoding.md R48). -/

namespace Sys2Proof

/-- Which bit of a word comes from which field (spec/30_encoding.md R48). -/
theorem assembleWord_bit (k : BitVec 2) (a : Nat) (d : Byte) (i : Nat) :
    (assembleWord k a d).getLsbD i =
      if i < 8 then d.getLsbD i
      else if i < 16 then (BitVec.ofNat 8 a).getLsbD (i - 8)
      else k.getLsbD (i - 16) := by
  have h1 : (assembleWord k a d).getLsbD i =
      if i < 16 then (BitVec.ofNat 8 a ++ d).getLsbD i else k.getLsbD (i - 16) :=
    BitVec.getLsbD_append (x := k) (y := BitVec.ofNat 8 a ++ d)
  rw [h1, BitVec.getLsbD_append]
  by_cases h8 : i < 8
  · simp [h8, show i < 16 by omega]
  · simp [h8]

@[simp] theorem wordKind_assembleWord (k : BitVec 2) (a : Nat) (d : Byte) : wordKind (assembleWord k a d) = k := by
  apply BitVec.eq_of_getLsbD_eq
  intro i hi
  rw [wordKind, BitVec.getLsbD_extractLsb', assembleWord_bit, if_neg (by omega), if_neg (by omega),
    show 16 + i - 16 = i by omega]
  simp [hi]

@[simp] theorem wordA_assembleWord (k : BitVec 2) (a : Nat) (d : Byte) :
    wordA (assembleWord k a d) = BitVec.ofNat 8 a := by
  apply BitVec.eq_of_getLsbD_eq
  intro i hi
  rw [wordA, BitVec.getLsbD_extractLsb', assembleWord_bit, if_neg (by omega), if_pos (by omega),
    show 8 + i - 8 = i by omega]
  simp only [hi, decide_true, Bool.true_and]

@[simp] theorem wordD_assembleWord (k : BitVec 2) (a : Nat) (d : Byte) : wordD (assembleWord k a d) = d := by
  apply BitVec.eq_of_getLsbD_eq
  intro i hi
  rw [wordD, BitVec.getLsbD_extractLsb', assembleWord_bit, if_pos (by omega), Nat.zero_add]
  simp [hi]

/-- A word is put together from its own fields. -/
theorem assembleWord_fields (w : StimWord) : assembleWord (wordKind w) (wordA w).toNat (wordD w) = w := by
  apply BitVec.eq_of_getLsbD_eq
  intro i hi
  rw [assembleWord_bit, BitVec.ofNat_toNat, BitVec.setWidth_eq]
  simp only [wordKind, wordA, wordD, BitVec.getLsbD_extractLsb']
  by_cases h1 : i < 8
  · simp [h1]
  · by_cases h2 : i < 16
    · simp [h1, h2, show i - 8 < 8 by omega, show 8 + (i - 8) = i by omega]
    · simp [h1, h2, show i - 16 < 2 by omega, show 16 + (i - 16) = i by omega]

/-- `S = kind * 0x10000 + a * 0x100 + d` (spec/30_encoding.md R48). -/
theorem assembleWord_toNat (k : BitVec 2) {a : Nat} (ha : a < 256) (d : Byte) :
    (assembleWord k a d).toNat = k.toNat * 0x10000 + a * 0x100 + d.toNat := by
  have hd := d.isLt
  have h : (assembleWord k a d).toNat = k.toNat <<< 16 ||| (a <<< 8 ||| d.toNat) := by
    have h1 : (assembleWord k a d).toNat = k.toNat <<< 16 ||| (BitVec.ofNat 8 a ++ d).toNat :=
      BitVec.toNat_append k (BitVec.ofNat 8 a ++ d)
    rw [h1, BitVec.toNat_append, BitVec.toNat_ofNat, Nat.mod_eq_of_lt (show a < 2 ^ 8 by omega)]
  rw [h]
  rw [← Nat.shiftLeft_add_eq_or_of_lt (by omega : d.toNat < 2 ^ 8) a,
    ← Nat.shiftLeft_add_eq_or_of_lt (by rw [Nat.shiftLeft_eq]; omega : a <<< 8 + d.toNat < 2 ^ 16) k.toNat]
  simp only [Nat.shiftLeft_eq]
  omega

/-- The mask test of a row, field by field. -/
theorem assembleWord_and_mask (k : BitVec 2) (a : Nat) (d am dm : Byte) :
    assembleWord k a d &&& (3#2 ++ (am ++ dm) : BitVec 18) =
      (k ++ ((BitVec.ofNat 8 a &&& am) ++ (d &&& dm)) : BitVec 18) := by
  have hk : k &&& 3#2 = k := by revert k; decide
  unfold assembleWord
  rw [show (k ++ (BitVec.ofNat 8 a ++ d) : BitVec 18) &&& (3#2 ++ (am ++ dm)) =
    ((k &&& 3#2) ++ ((BitVec.ofNat 8 a ++ d) &&& (am ++ dm)) : BitVec 18) from BitVec.and_append]
  rw [hk, BitVec.and_append]

end Sys2Proof
end

