-- ==== Sys2Proof/Laws/Operands.lean ====
section
/-! SUPPORT. The small lemmas of operand assembly: the two sources of an ICR byte, and the fields of a byte
put together from two entries. -/

namespace Sys2Proof.Machine

@[simp] theorem evenSource_val (k : Fin 12) : (evenSource k).val = 2 * k.val := rfl

@[simp] theorem oddSource_val (k : Fin 12) : (oddSource k).val = 2 * k.val + 1 := rfl

theorem evenSource_ne_oddSource (k j : Fin 12) : evenSource k ≠ oddSource j := by
  intro h
  have := congrArg Fin.val h
  simp only [evenSource_val, oddSource_val] at this
  omega

theorem evenSource_inj {k j : Fin 12} (h : evenSource k = evenSource j) : k = j := by
  have := congrArg Fin.val h
  simp only [evenSource_val] at this
  omega

theorem oddSource_inj {k j : Fin 12} (h : oddSource k = oddSource j) : k = j := by
  have := congrArg Fin.val h
  simp only [oddSource_val] at this
  omega

/-- Every source has its entry in exactly one ICR byte (spec/10_state.md R21). -/
theorem source_even_or_odd (i : SourceIndex) : ∃ k : Fin 12, i = evenSource k ∨ i = oddSource k := by
  refine ⟨⟨i.val / 2, by omega⟩, ?_⟩
  rcases Nat.mod_two_eq_zero_or_one i.val with h | h
  · exact .inl (Fin.ext (by simp only [evenSource_val]; omega))
  · exact .inr (Fin.ext (by simp only [oddSource_val]; omega))

@[simp] theorem highNibble_append (a b : IcrEntry) : highNibble (a ++ b) = a :=
  BitVec.extractLsb'_append_eq_left

@[simp] theorem lowNibble_append (a b : IcrEntry) : lowNibble (a ++ b) = b :=
  BitVec.extractLsb'_append_eq_right

theorem clkOf_default {c : Byte} (h : c.getLsbD 7 = true) : clkOf c = Config.defaultClock := by
  rw [clkOf, ccrDef, h, if_pos rfl]

theorem clkOf_table {c : Byte} (h : c.getLsbD 7 = false) : clkOf c = Config.clockTable (c.extractLsb' 4 3) := by
  rw [clkOf, ccrDef, h, if_neg Bool.false_ne_true, ccrSel]

theorem countByte_toNat {n : Nat} (h : n ≤ 24) : (countByte n).toNat = n := by
  simp only [countByte, BitVec.toNat_ofNat]
  omega

end Sys2Proof.Machine
end

