-- ==== Sys2Proof/Laws/Flags.lean ====
section
/-! SUPPORT. What the ISR operations do, bit by bit: writing one bit, the byte views, and the acknowledge
loop (its new ISR and its count). -/

namespace Sys2Proof.Machine

theorem writeIsrBit_getLsbD (isr : IsrWord) (i : SourceIndex) (b : Bool) (j : Nat) :
    (writeIsrBit isr i b).getLsbD j = if j = i.val then b else isr.getLsbD j := by
  have hi := i.isLt
  by_cases hj : j = i.val
  · subst hj
    cases b <;> simp [writeIsrBit]
  · have hne : ¬ i.val = j := fun h => hj h.symm
    cases b
    · by_cases hlt : j < 24
      · simp [writeIsrBit, hj, hlt]
      · simp [writeIsrBit, hj, BitVec.getLsbD_of_ge isr j (by omega)]
    · simp [writeIsrBit, BitVec.getLsbD_twoPow, hne, hj]

@[simp] theorem isrBit_writeIsrBit_same (isr : IsrWord) (i : SourceIndex) (b : Bool) :
    isrBit (writeIsrBit isr i b) i = b := by
  rw [isrBit, writeIsrBit_getLsbD, if_pos rfl]

theorem isrBit_writeIsrBit_other (isr : IsrWord) {i j : SourceIndex} (b : Bool) (h : j ≠ i) :
    isrBit (writeIsrBit isr i b) j = isrBit isr j := by
  rw [isrBit, writeIsrBit_getLsbD, if_neg (fun e => h (Fin.ext e)), isrBit]

@[simp] theorem isrBit_zero (i : SourceIndex) : isrBit 0#24 i = false := by
  rw [isrBit, BitVec.getLsbD_zero]

/-- Two ISR words with the same 24 bits are equal. -/
theorem isr_ext {a b : IsrWord} (h : ∀ i, isrBit a i = isrBit b i) : a = b :=
  BitVec.eq_of_getLsbD_eq fun i hi => h ⟨i, hi⟩

theorem isrHigh_bit (isr : IsrWord) (b : Nat) : (isrHigh isr).getLsbD b = (decide (b < 8) && isr.getLsbD (16 + b)) := by
  simp [isrHigh]

theorem isrMiddle_bit (isr : IsrWord) (b : Nat) : (isrMiddle isr).getLsbD b = (decide (b < 8) && isr.getLsbD (8 + b)) := by
  simp [isrMiddle]

theorem isrLow_bit (isr : IsrWord) (b : Nat) : (isrLow isr).getLsbD b = (decide (b < 8) && isr.getLsbD b) := by
  simp [isrLow]

/-- The three byte views hold the whole ISR (spec/20_memory.md R34). -/
theorem isr_bytes (isr : IsrWord) : (isrHigh isr ++ (isrMiddle isr ++ isrLow isr) : BitVec 24) = isr := by
  apply BitVec.eq_of_getLsbD_eq
  intro i hi
  simp only [BitVec.getLsbD_append, isrHigh_bit, isrMiddle_bit, isrLow_bit]
  by_cases h1 : i < 8
  · simp [h1, show i < 16 by omega]
  · by_cases h2 : i < 16
    · simp [h1, h2, show i - 8 < 8 by omega, show 8 + (i - 8) = i by omega]
    · simp [h2, show i - 16 < 8 by omega, show 16 + (i - 16) = i by omega]

/-- The rule's test: the switch is off, so the line select alone decides (spec/41_register_read.md R85 a). -/
@[simp] theorem ackSelects_default (line : LineNum) (e : IcrEntry) :
    ackSelects ackTestsEnable line e = (icrLine e == line) := by
  simp [ackSelects, ackTestsEnable]

theorem ackTurn_foldl_count (te : Bool) (icr : Vector IcrEntry 24) (line : LineNum) (l : List SourceIndex)
    (isr : IsrWord) (n : Nat) :
    (l.foldl (ackTurn te icr line) (isr, n)).2 = n + l.countP (fun i => ackSelects te line icr[i]) := by
  induction l generalizing isr n with
  | nil => rfl
  | cons i l ih =>
    by_cases h : ackSelects te line icr[i] = true
    · rw [List.foldl_cons, ackTurn, if_pos h, ih, List.countP_cons_of_pos (by exact h)]
      omega
    · rw [List.foldl_cons, ackTurn, if_neg h, ih, List.countP_cons_of_neg (by exact h)]

theorem ackTurn_foldl_bit (te : Bool) (icr : Vector IcrEntry 24) (line : LineNum) (l : List SourceIndex)
    (isr : IsrWord) (n : Nat) (x : SourceIndex) :
    isrBit (l.foldl (ackTurn te icr line) (isr, n)).1 x =
      (isrBit isr x && !(decide (x ∈ l) && ackSelects te line icr[x])) := by
  induction l generalizing isr n with
  | nil => simp only [List.foldl_nil, List.not_mem_nil, decide_false, Bool.false_and, Bool.not_false, Bool.and_true]
  | cons i l ih =>
    rw [List.foldl_cons, ackTurn]
    by_cases h : ackSelects te line icr[i] = true
    · rw [if_pos h, ih]
      by_cases hx : x = i
      · subst hx
        rw [isrBit_writeIsrBit_same, h]
        simp
      · simp only [isrBit_writeIsrBit_other _ _ hx, List.mem_cons, hx, false_or]
    · rw [if_neg h, ih]
      by_cases hx : x = i
      · subst hx
        rw [Bool.not_eq_true] at h
        rw [h]
        simp
      · simp only [List.mem_cons, hx, false_or]

/-- The acknowledge count: how many of the 24 entries the test selects, whatever the ISR
(spec/41_register_read.md R85). -/
theorem ackLoop_count (te : Bool) (icr : Vector IcrEntry 24) (line : LineNum) (isr : IsrWord) :
    (ackLoop te icr line isr).2 = (List.finRange 24).countP (fun i => ackSelects te line icr[i]) := by
  rw [ackLoop, ackTurn_foldl_count, Nat.zero_add]

/-- The acknowledge clears exactly the bits of the sources the test selects (spec/41_register_read.md R85). -/
theorem ackLoop_bit (te : Bool) (icr : Vector IcrEntry 24) (line : LineNum) (isr : IsrWord) (x : SourceIndex) :
    isrBit (ackLoop te icr line isr).1 x = (isrBit isr x && !ackSelects te line icr[x]) := by
  rw [ackLoop, ackTurn_foldl_bit, decide_eq_true (List.mem_finRange x), Bool.true_and]

/-- "0 <= count <= 24" (spec/41_register_read.md R85 corner case d). -/
theorem ackLoop_count_le (te : Bool) (icr : Vector IcrEntry 24) (line : LineNum) (isr : IsrWord) :
    (ackLoop te icr line isr).2 ≤ 24 := by
  rw [ackLoop_count]
  exact (List.countP_le_length).trans (by simp)

end Sys2Proof.Machine
end

