-- ==== Sys2Proof/Laws/Ops.lean ====
section
/-! SUPPORT. What each shared operation does, said once: the CCR write, the ICR byte write, the
acknowledge, the notification, and their effect on the derived line levels and clock. -/

namespace Sys2Proof.Machine

variable (s : State)

/-! The derived quantities after one more event. -/

@[simp] theorem State.line_emit (e : Event) (n : LineNum) : (s.emit e).line n = lineAfter n (s.line n) e := by
  simp [State.line]

@[simp] theorem State.clk_emit (e : Event) : (s.emit e).clk = clkAfter s.clk e := by
  simp [State.clk]

/-- The line levels are a function of the trace (spec/10_state.md R30). -/
theorem State.line_congr {s t : State} (h : t.trace = s.trace) (n : LineNum) : t.line n = s.line n := by
  simp [State.line, h]

/-- The selected clock is a function of the trace (spec/10_state.md R30). -/
theorem State.clk_congr {s t : State} (h : t.trace = s.trace) : t.clk = s.clk := by
  simp [State.clk, h]

/-! The ICR byte write (spec/40_register_write.md R69). -/

theorem State.writeIcrByte_even (k : Fin 12) (v : Byte) :
    (s.writeIcrByte k v).icr[evenSource k] = highNibble v := by
  simp [State.writeIcrByte]

theorem State.writeIcrByte_odd (k : Fin 12) (v : Byte) :
    (s.writeIcrByte k v).icr[oddSource k] = lowNibble v := by
  simp [State.writeIcrByte]

theorem State.writeIcrByte_other (k : Fin 12) (v : Byte) {x : SourceIndex} (he : x ≠ evenSource k)
    (ho : x ≠ oddSource k) : (s.writeIcrByte k v).icr[x] = s.icr[x] := by
  have h1 : ¬ 2 * k.val = x.val := fun h => he (Fin.ext h.symm)
  have h2 : ¬ 2 * k.val + 1 = x.val := fun h => ho (Fin.ext h.symm)
  simp [State.writeIcrByte, h1, h2]

/-- Every entry after the write of ICR byte `k`. -/
theorem State.writeIcrByte_icr (k : Fin 12) (v : Byte) (x : SourceIndex) :
    (s.writeIcrByte k v).icr[x] =
      if x.val = 2 * k.val then highNibble v else if x.val = 2 * k.val + 1 then lowNibble v else s.icr[x] := by
  by_cases he : x = evenSource k
  · subst he
    rw [State.writeIcrByte_even, if_pos (evenSource_val k)]
  · rw [if_neg (show ¬ x.val = 2 * k.val from fun e => he (Fin.ext e))]
    by_cases ho : x = oddSource k
    · subst ho
      rw [State.writeIcrByte_odd, if_pos (oddSource_val k)]
    · rw [State.writeIcrByte_other s k v he ho,
        if_neg (show ¬ x.val = 2 * k.val + 1 from fun e => ho (Fin.ext e))]

@[simp] theorem State.writeIcrByte_ccr (k : Fin 12) (v : Byte) : (s.writeIcrByte k v).ccr = s.ccr := rfl
@[simp] theorem State.writeIcrByte_abr (k : Fin 12) (v : Byte) : (s.writeIcrByte k v).abr = s.abr := rfl
@[simp] theorem State.writeIcrByte_isr (k : Fin 12) (v : Byte) : (s.writeIcrByte k v).isr = s.isr := rfl
@[simp] theorem State.writeIcrByte_trace (k : Fin 12) (v : Byte) : (s.writeIcrByte k v).trace = s.trace := rfl
@[simp] theorem State.writeIcrByte_readData (k : Fin 12) (v : Byte) : (s.writeIcrByte k v).readData = s.readData := rfl
@[simp] theorem State.writeIcrByte_pending (k : Fin 12) (v : Byte) : (s.writeIcrByte k v).pending = s.pending := rfl

/-! The CCR write (spec/40_register_write.md R60). -/

@[simp] theorem State.writeCcr_ccr (v : Byte) : (s.writeCcr v).ccr = v := rfl
@[simp] theorem State.writeCcr_abr (v : Byte) : (s.writeCcr v).abr = s.abr := rfl
@[simp] theorem State.writeCcr_icr (v : Byte) : (s.writeCcr v).icr = s.icr := rfl
@[simp] theorem State.writeCcr_isr (v : Byte) : (s.writeCcr v).isr = s.isr := rfl
@[simp] theorem State.writeCcr_trace (v : Byte) : (s.writeCcr v).trace = s.trace ++ [.setClock (clkOf v)] := rfl
@[simp] theorem State.writeCcr_readData (v : Byte) : (s.writeCcr v).readData = s.readData := rfl
@[simp] theorem State.writeCcr_pending (v : Byte) : (s.writeCcr v).pending = s.pending := rfl

/-! The acknowledge (spec/41_register_read.md R85). -/

@[simp] theorem State.acknowledge_ccr (n : LineNum) : (s.acknowledge n).ccr = s.ccr := rfl
@[simp] theorem State.acknowledge_abr (n : LineNum) : (s.acknowledge n).abr = s.abr := rfl
@[simp] theorem State.acknowledge_icr (n : LineNum) : (s.acknowledge n).icr = s.icr := rfl
@[simp] theorem State.acknowledge_pending (n : LineNum) : (s.acknowledge n).pending = s.pending := rfl
@[simp] theorem State.acknowledge_trace (n : LineNum) : (s.acknowledge n).trace = s.trace ++ [.lineClear n] := rfl

theorem State.acknowledge_isr_bit (n : LineNum) (x : SourceIndex) :
    isrBit (s.acknowledge n).isr x = (isrBit s.isr x && !(icrLine s.icr[x] == n)) := by
  rw [← ackSelects_default]
  exact ackLoop_bit ackTestsEnable s.icr n s.isr x

theorem State.acknowledge_readData (n : LineNum) :
    (s.acknowledge n).readData =
      s.readData ++ [countByte ((List.finRange 24).countP (fun i => icrLine s.icr[i] == n))] := by
  have h := ackLoop_count ackTestsEnable s.icr n s.isr
  simp only [ackSelects_default] at h
  rw [← h]
  rfl

/-! The notification (spec/42_source_router.md R90). -/

theorem State.notify_disabled {i : SourceIndex} (h : icrEnable s.icr[i] = false) (level : Level) :
    s.notify i level = s := by
  rw [State.notify, h, if_neg Bool.false_ne_true]

theorem State.notify_enabled {i : SourceIndex} (h : icrEnable s.icr[i] = true) (level : Level) :
    s.notify i level = (s.setIsr (writeIsrBit s.isr i level.bit)).pulseLine (icrLine s.icr[i]) level := by
  rw [State.notify, h, if_pos rfl]

@[simp] theorem State.pulseLine_ccr (n : LineNum) (l : Level) : (s.pulseLine n l).ccr = s.ccr := by cases l <;> rfl
@[simp] theorem State.pulseLine_abr (n : LineNum) (l : Level) : (s.pulseLine n l).abr = s.abr := by cases l <;> rfl
@[simp] theorem State.pulseLine_icr (n : LineNum) (l : Level) : (s.pulseLine n l).icr = s.icr := by cases l <;> rfl
@[simp] theorem State.pulseLine_isr (n : LineNum) (l : Level) : (s.pulseLine n l).isr = s.isr := by cases l <;> rfl
@[simp] theorem State.pulseLine_readData (n : LineNum) (l : Level) : (s.pulseLine n l).readData = s.readData := by
  cases l <;> rfl
@[simp] theorem State.pulseLine_pending (n : LineNum) (l : Level) : (s.pulseLine n l).pending = s.pending := by
  cases l <;> rfl

/-- The events of an enabled notification (spec/42_source_router.md R94). -/
theorem State.pulseLine_trace (n : LineNum) (l : Level) :
    (s.pulseLine n l).trace =
      s.trace ++ (match l with
        | .deasserted => [.lineClear n]
        | .asserted => [.lineClear n, .lineAssert n]) := by
  cases l <;> simp [State.pulseLine]

/-- After a pulse the line is at the level; every other line is as before (spec/42_source_router.md R92, R93). -/
theorem State.pulseLine_line (n m : LineNum) (l : Level) :
    (s.pulseLine n l).line m = if m = n then l.bit else s.line m := by
  by_cases h : m = n
  · subst h; cases l <;> simp [State.pulseLine, lineAfter]
  · have h' : ¬ n = m := fun e => h e.symm
    cases l <;> simp [State.pulseLine, lineAfter, h, h']

@[simp] theorem State.notify_ccr (i : SourceIndex) (l : Level) : (s.notify i l).ccr = s.ccr := by
  unfold State.notify; split <;> simp
@[simp] theorem State.notify_abr (i : SourceIndex) (l : Level) : (s.notify i l).abr = s.abr := by
  unfold State.notify; split <;> simp
@[simp] theorem State.notify_icr (i : SourceIndex) (l : Level) : (s.notify i l).icr = s.icr := by
  unfold State.notify; split <;> simp
@[simp] theorem State.notify_readData (i : SourceIndex) (l : Level) : (s.notify i l).readData = s.readData := by
  unfold State.notify; split <;> simp
@[simp] theorem State.notify_pending (i : SourceIndex) (l : Level) : (s.notify i l).pending = s.pending := by
  unfold State.notify; split <;> simp

theorem State.notify_isr_bit (i x : SourceIndex) (l : Level) :
    isrBit (s.notify i l).isr x =
      if icrEnable s.icr[i] = true ∧ x = i then l.bit else isrBit s.isr x := by
  cases h : icrEnable s.icr[i] with
  | false => rw [State.notify_disabled s h, if_neg (fun e => Bool.false_ne_true e.1)]
  | true =>
    rw [State.notify_enabled s h, State.pulseLine_isr, State.setIsr_isr]
    by_cases hx : x = i
    · subst hx
      rw [isrBit_writeIsrBit_same, if_pos ⟨rfl, rfl⟩]
    · rw [isrBit_writeIsrBit_other _ _ hx, if_neg (fun e => hx e.2)]

end Sys2Proof.Machine
end

