-- ==== Sys2Proof/Laws/Exec.lean ====
section
/-! SUPPORT. What an operation can do, said once: `exec` answers a next state, and that state is one of
eight shapes. Proofs over all operations cite this and never unfold `exec` over its 42 arms again. -/

namespace Sys2Proof.Machine

/-- The state `i` leads to from `s` is `t`, sorted by what changed. -/
def ExecShape (i : Instr) (s t : State) : Prop :=
  t = s ∨
  (∃ b, t = s.deliver b) ∨
  (∃ v, i = .wrCcr v ∧ t = s.writeCcr v) ∨
  (∃ a v, i = .wrAbr a v ∧ t = s.setAbr a v) ∨
  (∃ k v, icrByteWritten i = some (k, v) ∧ t = s.writeIcrByte k v) ∨
  (∃ n, ackLine i = some n ∧ t = s.acknowledge n) ∨
  (∃ x l, sourceOf i = some (x, l) ∧ t = s.notify x l) ∨
  (i = .rst ∧ t = s.resetRegisters)

/-- Inversion of `exec`: the shapes a next state can have. -/
theorem exec_shape {i : Instr} {s t : State} (h : exec i s = .next t) : ExecShape i s t := by
  cases i <;> injection h with h <;> subst h
  case rst => exact .inr (.inr (.inr (.inr (.inr (.inr (.inr ⟨rfl, rfl⟩))))))
  case src0_15 x l => exact .inr (.inr (.inr (.inr (.inr (.inr (.inl ⟨x, l, rfl, rfl⟩))))))
  case src16_23 x l => exact .inr (.inr (.inr (.inr (.inr (.inr (.inl ⟨x, l, rfl, rfl⟩))))))
  case wrCcr v => exact .inr (.inr (.inl ⟨v, rfl, rfl⟩))
  case wrAbr a v => exact .inr (.inr (.inr (.inl ⟨a, v, rfl, rfl⟩)))
  case wrIcrb0_7 k v => exact .inr (.inr (.inr (.inr (.inl ⟨k, v, rfl, rfl⟩))))
  case wrIcrb8_11 k v => exact .inr (.inr (.inr (.inr (.inl ⟨k, v, rfl, rfl⟩))))
  case rdIack1 => exact .inr (.inr (.inr (.inr (.inr (.inl ⟨1#3, rfl, rfl⟩)))))
  case rdIack2 => exact .inr (.inr (.inr (.inr (.inr (.inl ⟨2#3, rfl, rfl⟩)))))
  case rdIack3 => exact .inr (.inr (.inr (.inr (.inr (.inl ⟨3#3, rfl, rfl⟩)))))
  case rdIack4 => exact .inr (.inr (.inr (.inr (.inr (.inl ⟨4#3, rfl, rfl⟩)))))
  case rdIack5 => exact .inr (.inr (.inr (.inr (.inr (.inl ⟨5#3, rfl, rfl⟩)))))
  case rdIack6 => exact .inr (.inr (.inr (.inr (.inr (.inl ⟨6#3, rfl, rfl⟩)))))
  case rdIack7 => exact .inr (.inr (.inr (.inr (.inr (.inl ⟨7#3, rfl, rfl⟩)))))
  all_goals first
    | exact .inl rfl
    | exact .inr (.inl ⟨_, rfl⟩)

/-- A step with a request waiting is the decoded operation on the rest of the timeline, or a refusal. -/
theorem step_shape {s t : State} (h : step s = .next t) :
    (s.pending = [] ∧ t = s) ∨
      ∃ r rest i, s.pending = r :: rest ∧ decodeRequest r = .ok i ∧ exec i (s.setPending rest) = .next t := by
  unfold step at h
  split at h
  next hp => injection h with h; exact .inl ⟨hp, h.symm⟩
  next r rest hp =>
    split at h
    next i hi => exact .inr ⟨r, rest, i, hp, hi, h⟩
    next => cases h

/-- A run of one step more of any machine, when the step answers a next state. -/
theorem core_run_next (M : Host.Core) {s t : M.State} (h : M.step s = .next t) (n : Nat) :
    M.run (n + 1) s = M.run n t := by
  rw [Host.Core.run, h]

/-- A run of one step more of any machine, when the step refuses its input. -/
theorem core_run_refused (M : Host.Core) {s : M.State} {r : M.Refusal} (h : M.step s = .refused r) (n : Nat) :
    M.run (n + 1) s = .refused r := by
  rw [Host.Core.run, h]

theorem run_next {s t : State} (h : step s = .next t) (n : Nat) :
    Host.Core.run Sys2Proof.core (n + 1) s = Host.Core.run Sys2Proof.core n t :=
  core_run_next Sys2Proof.core h n

theorem run_refused {s : State} {r : Refusal} (h : step s = .refused r) (n : Nat) :
    Host.Core.run Sys2Proof.core (n + 1) s = .refused r :=
  core_run_refused Sys2Proof.core h n

/-- No operation touches the rest of the timeline. -/
theorem exec_pending {i : Instr} {s t : State} (h : exec i s = .next t) : t.pending = s.pending := by
  rcases exec_shape h with rfl | ⟨_, rfl⟩ | ⟨_, _, rfl⟩ | ⟨_, _, _, rfl⟩ | ⟨_, _, _, rfl⟩ | ⟨_, _, rfl⟩ |
    ⟨_, _, _, rfl⟩ | ⟨_, rfl⟩ <;> simp

/-- A read hands over exactly one byte, every other operation none. -/
theorem exec_readData {i : Instr} {s t : State} (h : exec i s = .next t) :
    (isRead i = true ∧ ∃ b, t.readData = s.readData ++ [b]) ∨ (isRead i = false ∧ t.readData = s.readData) := by
  cases i <;> injection h with h <;> subst h <;>
    first
    | exact .inl ⟨rfl, _, rfl⟩
    | exact .inr ⟨rfl, rfl⟩
    | exact .inr ⟨rfl, State.notify_readData _ _ _⟩

/-! The reads of a timeline, and their bytes, one request at a time. -/

theorem readsOf_cons_read {r : Request} {i : Instr} (rs : List Request) (hd : decodeRequest r = .ok i)
    (hr : isRead i = true) : readsOf (r :: rs) = i :: readsOf rs := by
  simp [readsOf, readOf, hd, hr]

theorem readsOf_cons_other {r : Request} {i : Instr} (rs : List Request) (hd : decodeRequest r = .ok i)
    (hr : isRead i = false) : readsOf (r :: rs) = readsOf rs := by
  simp [readsOf, readOf, hd, hr]

theorem agreeButAbrReads_nil : agreeButAbrReads [] [] [] := ⟨rfl, rfl, fun _ _ _ _ => rfl⟩

theorem agreeButAbrReads_cons {i : Instr} {is : List Instr} {b b' : Byte} {bs bs' : List Byte}
    (h : (∀ a, i ≠ .rdAbr a) → b = b') (hs : agreeButAbrReads is bs bs') :
    agreeButAbrReads (i :: is) (b :: bs) (b' :: bs') := by
  obtain ⟨hl, hl', hk⟩ := hs
  refine ⟨by simp [hl], by simp [hl'], fun k j hj hn => ?_⟩
  cases k with
  | zero =>
    obtain rfl : i = j := by simpa using hj
    simp [h hn]
  | succ k => simpa using hk k j (by simpa using hj) hn

end Sys2Proof.Machine
end

