-- ==== Sys2Proof/Laws/PerInstr.lean ====
section
/-! SUPPORT. The per-instruction family `RowMatch`: the stimulus word the encoder gives an operation falls
in the row of spec/opcode_table.json the operation stands for (`word & mask = match`), one lemma per
constructor. -/

namespace Sys2Proof.Laws

/-- The word of a well-formed operation that has one matches the operation's own row. -/
def RowMatch.Statement (i : Instr) : Prop :=
  i.wellFormed = true → i.fitsWord = true → encode i &&& i.row.mask = i.row.pattern

/-- The mask test of a row, one field at a time. -/
theorem row_match {k : BitVec 2} {a : Nat} {d am dm ap : Byte} {mask pattern : StimWord}
    (hm : mask = (3#2 ++ (am ++ dm) : BitVec 18)) (hp : pattern = (k ++ (ap ++ 0#8) : BitVec 18))
    (ha : BitVec.ofNat 8 a &&& am = ap) (hd : d &&& dm = 0#8) : assembleWord k a d &&& mask = pattern := by
  rw [hm, assembleWord_and_mask, ha, hd, hp]

/-- The `a` field of an offset or index range that a mask selects. -/
theorem field_in_range (am ap : Byte) (lo hi : Nat)
    (h : ∀ n : Fin 256, lo ≤ n.val → n.val ≤ hi → BitVec.ofNat 8 n.val &&& am = ap) {n : Nat} (h1 : lo ≤ n)
    (h2 : n ≤ hi) (h3 : n < 256) : BitVec.ofNat 8 n &&& am = ap :=
  h ⟨n, h3⟩ h1 h2

theorem RowMatch.rdCcr : RowMatch.Statement .rdCcr :=
  fun _ _ => row_match (am := 0xff#8) (dm := 0xff#8) (ap := 0x00#8) rfl rfl (by decide) (by decide)

theorem RowMatch.rdDcr : RowMatch.Statement .rdDcr :=
  fun _ _ => row_match (am := 0xff#8) (dm := 0xff#8) (ap := 0x01#8) rfl rfl (by decide) (by decide)

theorem RowMatch.rdFcr : RowMatch.Statement .rdFcr :=
  fun _ _ => row_match (am := 0xff#8) (dm := 0xff#8) (ap := 0x02#8) rfl rfl (by decide) (by decide)

theorem RowMatch.rdPcr : RowMatch.Statement .rdPcr :=
  fun _ _ => row_match (am := 0xff#8) (dm := 0xff#8) (ap := 0x03#8) rfl rfl (by decide) (by decide)

theorem RowMatch.rdIder0 : RowMatch.Statement .rdIder0 :=
  fun _ _ => row_match (am := 0xff#8) (dm := 0xff#8) (ap := 0x04#8) rfl rfl (by decide) (by decide)

theorem RowMatch.rdIder1 : RowMatch.Statement .rdIder1 :=
  fun _ _ => row_match (am := 0xff#8) (dm := 0xff#8) (ap := 0x05#8) rfl rfl (by decide) (by decide)

theorem RowMatch.rdIsar : RowMatch.Statement .rdIsar :=
  fun _ _ => row_match (am := 0xff#8) (dm := 0xff#8) (ap := 0x06#8) rfl rfl (by decide) (by decide)

theorem RowMatch.rdOff7 : RowMatch.Statement .rdOff7 :=
  fun _ _ => row_match (am := 0xff#8) (dm := 0xff#8) (ap := 0x07#8) rfl rfl (by decide) (by decide)

theorem RowMatch.rdAbr (i : Fin 8) : RowMatch.Statement (.rdAbr i) :=
  fun _ _ => row_match (am := 0xf8#8) (dm := 0xff#8) (ap := 0x08#8) rfl rfl (field_in_range 0xf8#8 0x08#8 8 15 (by decide +kernel) (by omega) (by omega) (by omega)) (by decide)

theorem RowMatch.rdIsrHi : RowMatch.Statement .rdIsrHi :=
  fun _ _ => row_match (am := 0xff#8) (dm := 0xff#8) (ap := 0x10#8) rfl rfl (by decide) (by decide)

theorem RowMatch.rdIsrMid : RowMatch.Statement .rdIsrMid :=
  fun _ _ => row_match (am := 0xff#8) (dm := 0xff#8) (ap := 0x11#8) rfl rfl (by decide) (by decide)

theorem RowMatch.rdIsrLo : RowMatch.Statement .rdIsrLo :=
  fun _ _ => row_match (am := 0xff#8) (dm := 0xff#8) (ap := 0x12#8) rfl rfl (by decide) (by decide)

theorem RowMatch.rdIack1 : RowMatch.Statement .rdIack1 :=
  fun _ _ => row_match (am := 0xff#8) (dm := 0xff#8) (ap := 0x13#8) rfl rfl (by decide) (by decide)

theorem RowMatch.rdIack2 : RowMatch.Statement .rdIack2 :=
  fun _ _ => row_match (am := 0xff#8) (dm := 0xff#8) (ap := 0x14#8) rfl rfl (by decide) (by decide)

theorem RowMatch.rdIack3 : RowMatch.Statement .rdIack3 :=
  fun _ _ => row_match (am := 0xff#8) (dm := 0xff#8) (ap := 0x15#8) rfl rfl (by decide) (by decide)

theorem RowMatch.rdIack4 : RowMatch.Statement .rdIack4 :=
  fun _ _ => row_match (am := 0xff#8) (dm := 0xff#8) (ap := 0x16#8) rfl rfl (by decide) (by decide)

theorem RowMatch.rdIack5 : RowMatch.Statement .rdIack5 :=
  fun _ _ => row_match (am := 0xff#8) (dm := 0xff#8) (ap := 0x17#8) rfl rfl (by decide) (by decide)

theorem RowMatch.rdIack6 : RowMatch.Statement .rdIack6 :=
  fun _ _ => row_match (am := 0xff#8) (dm := 0xff#8) (ap := 0x18#8) rfl rfl (by decide) (by decide)

theorem RowMatch.rdIack7 : RowMatch.Statement .rdIack7 :=
  fun _ _ => row_match (am := 0xff#8) (dm := 0xff#8) (ap := 0x19#8) rfl rfl (by decide) (by decide)

theorem RowMatch.rdRsv26_27 (offset : Nat) : RowMatch.Statement (.rdRsv26_27 offset) := by
  intro hw _
  simp only [Instr.wellFormed, Bool.and_eq_true, decide_eq_true_eq] at hw
  exact row_match (am := 0xfe#8) (dm := 0xff#8) (ap := 0x1a#8) rfl rfl
    (field_in_range 0xfe#8 0x1a#8 26 27 (by decide +kernel) (by omega) (by omega) (by omega)) (by decide)

theorem RowMatch.rdRsv28_31 (offset : Nat) : RowMatch.Statement (.rdRsv28_31 offset) := by
  intro hw _
  simp only [Instr.wellFormed, Bool.and_eq_true, decide_eq_true_eq] at hw
  exact row_match (am := 0xfc#8) (dm := 0xff#8) (ap := 0x1c#8) rfl rfl
    (field_in_range 0xfc#8 0x1c#8 28 31 (by decide +kernel) (by omega) (by omega) (by omega)) (by decide)

theorem RowMatch.rdOor32_63 (offset : Nat) : RowMatch.Statement (.rdOor32_63 offset) := by
  intro hw _
  simp only [Instr.wellFormed, Bool.and_eq_true, decide_eq_true_eq] at hw
  exact row_match (am := 0xe0#8) (dm := 0xff#8) (ap := 0x20#8) rfl rfl
    (field_in_range 0xe0#8 0x20#8 32 63 (by decide +kernel) (by omega) (by omega) (by omega)) (by decide)

theorem RowMatch.rdOor64_127 (offset : Nat) : RowMatch.Statement (.rdOor64_127 offset) := by
  intro hw _
  simp only [Instr.wellFormed, Bool.and_eq_true, decide_eq_true_eq] at hw
  exact row_match (am := 0xc0#8) (dm := 0xff#8) (ap := 0x40#8) rfl rfl
    (field_in_range 0xc0#8 0x40#8 64 127 (by decide +kernel) (by omega) (by omega) (by omega)) (by decide)

theorem RowMatch.rdOor128_255 (offset : Nat) : RowMatch.Statement (.rdOor128_255 offset) := by
  intro hw hf
  simp only [Instr.wellFormed, Instr.fitsWord, decide_eq_true_eq] at hw hf
  exact row_match (am := 0x80#8) (dm := 0xff#8) (ap := 0x80#8) rfl rfl
    (field_in_range 0x80#8 0x80#8 128 255 (by decide +kernel) (by omega) (by omega) (by omega)) (by decide)

theorem RowMatch.wrCcr (value : Byte) : RowMatch.Statement (.wrCcr value) :=
  fun _ _ => row_match (am := 0xff#8) (dm := 0x00#8) (ap := 0x00#8) rfl rfl (by decide) BitVec.and_zero

theorem RowMatch.wrDcr (value : Byte) : RowMatch.Statement (.wrDcr value) :=
  fun _ _ => row_match (am := 0xff#8) (dm := 0x00#8) (ap := 0x01#8) rfl rfl (by decide) BitVec.and_zero

theorem RowMatch.wrFcr (value : Byte) : RowMatch.Statement (.wrFcr value) :=
  fun _ _ => row_match (am := 0xff#8) (dm := 0x00#8) (ap := 0x02#8) rfl rfl (by decide) BitVec.and_zero

theorem RowMatch.wrPcr (value : Byte) : RowMatch.Statement (.wrPcr value) :=
  fun _ _ => row_match (am := 0xff#8) (dm := 0x00#8) (ap := 0x03#8) rfl rfl (by decide) BitVec.and_zero

theorem RowMatch.wrIder0 (value : Byte) : RowMatch.Statement (.wrIder0 value) :=
  fun _ _ => row_match (am := 0xff#8) (dm := 0x00#8) (ap := 0x04#8) rfl rfl (by decide) BitVec.and_zero

theorem RowMatch.wrIder1 (value : Byte) : RowMatch.Statement (.wrIder1 value) :=
  fun _ _ => row_match (am := 0xff#8) (dm := 0x00#8) (ap := 0x05#8) rfl rfl (by decide) BitVec.and_zero

theorem RowMatch.wrIsar (value : Byte) : RowMatch.Statement (.wrIsar value) :=
  fun _ _ => row_match (am := 0xff#8) (dm := 0x00#8) (ap := 0x06#8) rfl rfl (by decide) BitVec.and_zero

theorem RowMatch.wrOff7 (value : Byte) : RowMatch.Statement (.wrOff7 value) :=
  fun _ _ => row_match (am := 0xff#8) (dm := 0x00#8) (ap := 0x07#8) rfl rfl (by decide) BitVec.and_zero

theorem RowMatch.wrAbr (i : Fin 8) (value : Byte) : RowMatch.Statement (.wrAbr i value) :=
  fun _ _ => row_match (am := 0xf8#8) (dm := 0x00#8) (ap := 0x08#8) rfl rfl (field_in_range 0xf8#8 0x08#8 8 15 (by decide +kernel) (by omega) (by omega) (by omega)) BitVec.and_zero

theorem RowMatch.wrIcrb0_7 (k : Fin 12) (value : Byte) : RowMatch.Statement (.wrIcrb0_7 k value) := by
  intro hw _
  simp only [Instr.wellFormed, decide_eq_true_eq] at hw
  exact row_match (am := 0xf8#8) (dm := 0x00#8) (ap := 0x10#8) rfl rfl
    (field_in_range 0xf8#8 0x10#8 16 23 (by decide +kernel) (by omega) (by omega) (by omega)) BitVec.and_zero

theorem RowMatch.wrIcrb8_11 (k : Fin 12) (value : Byte) : RowMatch.Statement (.wrIcrb8_11 k value) := by
  intro hw _
  simp only [Instr.wellFormed, decide_eq_true_eq] at hw
  exact row_match (am := 0xfc#8) (dm := 0x00#8) (ap := 0x18#8) rfl rfl
    (field_in_range 0xfc#8 0x18#8 24 27 (by decide +kernel) (by omega) (by omega) (by omega)) BitVec.and_zero

theorem RowMatch.wrRsv28_31 (offset : Nat) (value : Byte) : RowMatch.Statement (.wrRsv28_31 offset value) := by
  intro hw _
  simp only [Instr.wellFormed, Bool.and_eq_true, decide_eq_true_eq] at hw
  exact row_match (am := 0xfc#8) (dm := 0x00#8) (ap := 0x1c#8) rfl rfl
    (field_in_range 0xfc#8 0x1c#8 28 31 (by decide +kernel) (by omega) (by omega) (by omega)) BitVec.and_zero

theorem RowMatch.wrOor32_63 (offset : Nat) (value : Byte) : RowMatch.Statement (.wrOor32_63 offset value) := by
  intro hw _
  simp only [Instr.wellFormed, Bool.and_eq_true, decide_eq_true_eq] at hw
  exact row_match (am := 0xe0#8) (dm := 0x00#8) (ap := 0x20#8) rfl rfl
    (field_in_range 0xe0#8 0x20#8 32 63 (by decide +kernel) (by omega) (by omega) (by omega)) BitVec.and_zero

theorem RowMatch.wrOor64_127 (offset : Nat) (value : Byte) : RowMatch.Statement (.wrOor64_127 offset value) := by
  intro hw _
  simp only [Instr.wellFormed, Bool.and_eq_true, decide_eq_true_eq] at hw
  exact row_match (am := 0xc0#8) (dm := 0x00#8) (ap := 0x40#8) rfl rfl
    (field_in_range 0xc0#8 0x40#8 64 127 (by decide +kernel) (by omega) (by omega) (by omega)) BitVec.and_zero

theorem RowMatch.wrOor128_255 (offset : Nat) (value : Byte) : RowMatch.Statement (.wrOor128_255 offset value) := by
  intro hw hf
  simp only [Instr.wellFormed, Instr.fitsWord, decide_eq_true_eq] at hw hf
  exact row_match (am := 0x80#8) (dm := 0x00#8) (ap := 0x80#8) rfl rfl
    (field_in_range 0x80#8 0x80#8 128 255 (by decide +kernel) (by omega) (by omega) (by omega)) BitVec.and_zero

theorem RowMatch.src0_15 (index : SourceIndex) (level : Level) : RowMatch.Statement (.src0_15 index level) := by
  intro hw _
  simp only [Instr.wellFormed, decide_eq_true_eq] at hw
  exact row_match (am := 0xf0#8) (dm := 0xfe#8) (ap := 0x00#8) rfl rfl
    (field_in_range 0xf0#8 0x00#8 0 15 (by decide +kernel) (by omega) (by omega) (by omega)) (by cases level <;> decide)

theorem RowMatch.src16_23 (index : SourceIndex) (level : Level) : RowMatch.Statement (.src16_23 index level) := by
  intro hw _
  simp only [Instr.wellFormed, decide_eq_true_eq] at hw
  exact row_match (am := 0xf8#8) (dm := 0xfe#8) (ap := 0x10#8) rfl rfl
    (field_in_range 0xf8#8 0x10#8 16 23 (by decide +kernel) (by omega) (by omega) (by omega)) (by cases level <;> decide)

theorem RowMatch.rst : RowMatch.Statement .rst :=
  fun _ _ => row_match (am := 0xff#8) (dm := 0xff#8) (ap := 0x00#8) rfl rfl (by decide) (by decide)

end Sys2Proof.Laws
end

