-- ==== Sys2Proof/Tests/Slice0.lean ====
section
/-! SUPPORT. The model's own tests. Expected results are the spec's: the encodings and vectors of
spec/95_test_vectors.md (E, V, S and P entries, named at each test) and the rules cited. Then one witness
theorem for every statement of Certificates/Slice0/Obligations.lean that has hypotheses. -/

namespace Sys2Proof.Tests

open Sys2Proof.Machine

/-! ## Small states -/

/-- Fresh, with `ICR[i] = e`. -/
def withIcr (i : SourceIndex) (e : IcrEntry) : State := State.reset.setIcr i e

/-- The state an outcome holds, or the reset state where there is none. -/
def landed (o : Host.Outcome State Fault Refusal) : State :=
  match o with
  | .next s => s
  | .fault _ => State.reset
  | .refused _ => State.reset

/-- One operation from `s`. -/
def after (i : Instr) (s : State) : State := landed (exec i s)

/-- The source's scenario S8: sources 3 and 7 enabled on line 5, both pending. -/
def bothPending : State := ((withIcr 3 0xD#4).setIcr 7 0xD#4).setIsr 0x000088#24

/-! ## Well-formedness: each check refuses a term outside its row -/

theorem test_wellFormed_refuses_reads :
    [Instr.rdRsv26_27 25, .rdRsv26_27 28, .rdRsv28_31 27, .rdRsv28_31 32, .rdOor32_63 31, .rdOor32_63 64,
      .rdOor64_127 63, .rdOor64_127 128, .rdOor128_255 127].map Instr.wellFormed =
    List.replicate 9 false := by decide

theorem test_wellFormed_refuses_writes :
    [Instr.wrRsv28_31 27 0, .wrRsv28_31 32 0, .wrOor32_63 31 0, .wrOor32_63 64 0, .wrOor64_127 63 0,
      .wrOor64_127 128 0, .wrOor128_255 127 0, .wrIcrb0_7 8 0, .wrIcrb8_11 7 0].map Instr.wellFormed =
    List.replicate 9 false := by decide

theorem test_wellFormed_refuses_sources :
    [Instr.src0_15 16 .asserted, .src16_23 15 .asserted].map Instr.wellFormed = [false, false] := by decide

theorem test_wellFormed_accepts_every_row : representatives.map Instr.wellFormed = List.replicate 42 true := by
  decide

theorem test_fitsWord_refuses_long_offsets :
    [Instr.rdOor128_255 256, .wrOor128_255 256 0].map Instr.fitsWord = [false, false] := by decide

/-! ## Decoding: every constructor, by a word written out from its Encoding line -/

/-- Reads of offsets 0..7 (41_register_read.md R73 to R80): `RD off` = off * 0x100. -/
theorem test_decode_reads_0_7 :
    [0x00000, 0x00100, 0x00200, 0x00300, 0x00400, 0x00500, 0x00600, 0x00700].map (decodeTableWord 24) =
    [some .rdCcr, some .rdDcr, some .rdFcr, some .rdPcr, some .rdIder0, some .rdIder1, some .rdIsar, some .rdOff7] := by
  decide

/-- E4 and R81 to R84: `RD 12` is ABR 4, `RD 8` ABR 0, `RD 15` ABR 7; `RD 16`, `17`, `18` the ISR bytes. -/
theorem test_decode_reads_8_18 :
    [0x00C00, 0x00800, 0x00F00, 0x01000, 0x01100, 0x01200].map (decodeTableWord 24) =
    [some (.rdAbr 4), some (.rdAbr 0), some (.rdAbr 7), some .rdIsrHi, some .rdIsrMid, some .rdIsrLo] := by decide

/-- R85: `RD 18 + L` = 0x01200 + 0x100 * L. -/
theorem test_decode_acknowledges :
    [0x01300, 0x01400, 0x01500, 0x01600, 0x01700, 0x01800, 0x01900].map (decodeTableWord 24) =
    [some .rdIack1, some .rdIack2, some .rdIack3, some .rdIack4, some .rdIack5, some .rdIack6, some .rdIack7] := by
  decide

/-- E8 to E12 (R86 to R88), with the ends of each range. -/
theorem test_decode_reads_26_up :
    [0x01A00, 0x01B00, 0x01C00, 0x01F00, 0x02000, 0x03F00, 0x04000, 0x06400, 0x07F00, 0x08000, 0x0FF00].map
      (decodeTableWord 24) =
    [some (.rdRsv26_27 26), some (.rdRsv26_27 27), some (.rdRsv28_31 28), some (.rdRsv28_31 31),
      some (.rdOor32_63 32), some (.rdOor32_63 63), some (.rdOor64_127 64), some (.rdOor64_127 100),
      some (.rdOor64_127 127), some (.rdOor128_255 128), some (.rdOor128_255 255)] := by decide

/-- R60 to R67: `WR off, value` = 0x10000 + off * 0x100 + value (E13 is `WR 0, 0x80`). -/
theorem test_decode_writes_0_7 :
    [0x10080, 0x101FF, 0x102FF, 0x103FF, 0x104FF, 0x105FF, 0x106FF, 0x107FF].map (decodeTableWord 24) =
    [some (.wrCcr 0x80#8), some (.wrDcr 0xFF#8), some (.wrFcr 0xFF#8), some (.wrPcr 0xFF#8), some (.wrIder0 0xFF#8),
      some (.wrIder1 0xFF#8), some (.wrIsar 0xFF#8), some (.wrOff7 0xFF#8)] := by decide

/-- E14 to E19 (R68 to R71). -/
theorem test_decode_writes_8_up :
    [0x108A5, 0x10F5A, 0x1170D, 0x118B0, 0x11B9A, 0x11CFF, 0x128FF, 0x14001, 0x18002, 0x1FFFF].map
      (decodeTableWord 24) =
    [some (.wrAbr 0 0xA5#8), some (.wrAbr 7 0x5A#8), some (.wrIcrb0_7 7 0x0D#8), some (.wrIcrb8_11 8 0xB0#8),
      some (.wrIcrb8_11 11 0x9A#8), some (.wrRsv28_31 28 0xFF#8), some (.wrOor32_63 40 0xFF#8),
      some (.wrOor64_127 64 0x01#8), some (.wrOor128_255 128 0x02#8), some (.wrOor128_255 255 0xFF#8)] := by decide

/-- E20 to E23 (R90, R116), with the ends of each range. -/
theorem test_decode_sources_and_reset :
    [0x20301, 0x20F00, 0x21000, 0x21701, 0x30000].map (decodeTableWord 24) =
    [some (.src0_15 3 .asserted), some (.src0_15 15 .deasserted), some (.src16_23 16 .deasserted),
      some (.src16_23 23 .asserted), some .rst] := by decide

/-- E24 to E27: reserved words are refused; so is a number of more than 18 bits. -/
theorem test_decode_refuses_reserved_words :
    [0x21801, 0x20302, 0x00001, 0x30100, 0x30001, 0x40000].map (decodeTableWord 24) =
    [none, none, none, none, none, none] := by decide

/-- The words of E4, E13, E17, E20 and E23, encoded. -/
theorem test_encode_words :
    [Instr.rdAbr 4, .wrCcr 0x80#8, .wrIcrb8_11 11 0x9A#8, .src0_15 3 .asserted, .rst].map encode =
    [0x00C00#18, 0x10080#18, 0x11B9A#18, 0x20301#18, 0x30000#18] := by decide

/-- An offset of 300 has no word and is out of range all the same (30_encoding.md R47, R48). -/
theorem test_decode_offset_300 : decodeRequest (.write 300 0x22#8) = .ok (.wrOor128_255 300 0x22#8) := rfl

/-! ## The step and the host's fetch -/

theorem test_fetched_word_runs :
    step (State.reset.withFetchWord 24 0x1110D) = exec (.wrIcrb0_7 1 0x0D#8) State.reset := rfl

/-- V43: a source index of 24 is refused, no step. -/
theorem test_step_refuses_source_24 :
    step (State.reset.setPending [.source 24 .asserted]) = .refused (.illFormedInput .sourceIndexOutOfRange) := rfl

/-! ## Register writes -/

/-- V4: `WR 0, 0x7F` stores the byte and selects table entry 7. -/
theorem test_wrCcr_table : (after (.wrCcr 0x7F#8) State.reset).ccr = 0x7F#8 ∧
    (after (.wrCcr 0x7F#8) State.reset).trace = [.setClock (Config.clockTable 7#3)] := ⟨rfl, rfl⟩

/-- V3: bit 7 selects the default whatever the other bits. -/
theorem test_wrCcr_default :
    (after (.wrCcr 0xFF#8) State.reset).trace = [.setClock Config.defaultClock] := rfl

/-- V7, V8: placeholder writes and offset 7 change nothing. -/
theorem test_placeholder_writes :
    [Instr.wrDcr 0xFF#8, .wrFcr 0xFF#8, .wrPcr 0xFF#8, .wrIder0 0xFF#8, .wrIder1 0xFF#8, .wrIsar 0xFF#8,
      .wrOff7 0xFF#8].map (after · bothPending) = List.replicate 7 bothPending := by decide

/-- V9: `WR 8, 0xA5`. -/
theorem test_wrAbr : (after (.wrAbr 0 0xA5#8) State.reset).abr.toList = [0xA5#8, 0, 0, 0, 0, 0, 0, 0] := by decide

/-- V11: `WR 17, 0x0D` gives `ICR[2] = 0x0`, `ICR[3] = 0xD`. -/
theorem test_wrIcrb0_7 : (after (.wrIcrb0_7 1 0x0D#8) (withIcr 2 0xF#4)) = withIcr 3 0xD#4 := by decide

/-- V13: `WR 27, 0x9A` gives `ICR[22] = 0x9`, `ICR[23] = 0xA`. -/
theorem test_wrIcrb8_11 : (after (.wrIcrb8_11 11 0x9A#8) State.reset) = (withIcr 22 0x9#4).setIcr 23 0xA#4 := by
  decide

/-- V14: clearing `EN` of a pending source keeps its ISR bit and emits nothing. -/
theorem test_wrIcr_keeps_isr : (after (.wrIcrb0_7 1 0x00#8) bothPending).isr = 0x000088#24 ∧
    (after (.wrIcrb0_7 1 0x00#8) bothPending).trace = [] := by decide

/-- V16, V17: reserved and out-of-range writes change nothing; offset 40 is not offset 8. -/
theorem test_reserved_writes :
    [Instr.wrRsv28_31 28 0xFF#8, .wrOor32_63 40 0x22#8, .wrOor64_127 64 0xFF#8, .wrOor128_255 255 0x33#8].map
      (after · bothPending) = List.replicate 4 bothPending := by decide

/-! ## Register reads -/

/-- V31: all 8 bits of CCR come back. -/
theorem test_rdCcr : (after .rdCcr (State.reset.setCcr 0xC5#8)).readData = [0xC5#8] := by decide

/-- V7, V8: placeholder reads and offset 7 return 0x00. -/
theorem test_placeholder_reads :
    [Instr.rdDcr, .rdFcr, .rdPcr, .rdIder0, .rdIder1, .rdIsar, .rdOff7].map (after · bothPending) =
    List.replicate 7 (bothPending.deliver 0x00#8) := by decide

/-- V9: `RD 8` returns the byte written, `RD 9` returns 0x00. -/
theorem test_rdAbr : (after (.rdAbr 1) (after (.rdAbr 0) (State.reset.setAbr 0 0xA5#8))).readData =
    [0xA5#8, 0x00#8] := by decide

/-- V19: the three bytes of `ISR = 0x818042`. -/
theorem test_rdIsr :
    (after .rdIsrLo (after .rdIsrMid (after .rdIsrHi (State.reset.setIsr 0x818042#24)))).readData =
    [0x81#8, 0x80#8, 0x42#8] := by decide

/-- V28 to V30: the other offsets return 0x00 and acknowledge nothing. -/
theorem test_reserved_reads :
    [Instr.rdRsv26_27 26, .rdRsv28_31 31, .rdOor32_63 51, .rdOor64_127 100, .rdOor128_255 255].map
      (after · bothPending) = List.replicate 5 (bothPending.deliver 0x00#8) := by decide

/-! ## The acknowledge read -/

/-- S8: `RD 23` returns 2, clears both bits, clears line 5. -/
theorem test_rdIack5 : (after .rdIack5 bothPending).isr = 0x000000#24 ∧
    (after .rdIack5 bothPending).readData = [2#8] ∧ (after .rdIack5 bothPending).trace = [.lineClear 5#3] := by decide

/-- V23: with every line select 0, each acknowledge returns 0 and clears its own line. -/
theorem test_acknowledge_lines :
    [Instr.rdIack1, .rdIack2, .rdIack3, .rdIack4, .rdIack5, .rdIack6, .rdIack7].map
      (fun i => ((after i State.reset).trace, (after i State.reset).readData)) =
    [([.lineClear 1#3], [0#8]), ([.lineClear 2#3], [0#8]), ([.lineClear 3#3], [0#8]), ([.lineClear 4#3], [0#8]),
      ([.lineClear 5#3], [0#8]), ([.lineClear 6#3], [0#8]), ([.lineClear 7#3], [0#8])] := by decide

/-- V27: a disabled entry is cleared and counted. -/
theorem test_acknowledge_disabled_entry :
    after .rdIack1 ((withIcr 0 0x1#4).setIsr 0x000001#24) =
      ((withIcr 0 0x1#4).emit (.lineClear 1#3)).deliver 0x01#8 := by decide

/-- V24: a source of another line keeps its bit. -/
theorem test_acknowledge_other_line :
    (after .rdIack1 (((withIcr 0 0x9#4).setIcr 1 0xA#4).setIsr 0x000003#24)).isr = 0x000002#24 := by decide

/-- V21: all 24 entries on line 1 give the count 24. -/
theorem test_acknowledge_count_24 :
    (after .rdIack1 { State.reset with icr := Vector.replicate 24 0x9#4 }).readData = [0x18#8] := by decide

/-- V27's other reading: with the switch the disabled entry is neither cleared nor counted. -/
theorem test_acknowledge_switch :
    ackLoop true (withIcr 0 0x1#4).icr 1#3 0x000001#24 = (0x000001#24, 0) := by decide

/-! ## Source notifications -/

/-- V34: `C5`, `A5` in that order, the ISR bit set. -/
theorem test_src0_15_asserted : after (.src0_15 3 .asserted) (withIcr 3 0xD#4) =
    (((withIcr 3 0xD#4).setIsr 0x000008#24).emit (.lineClear 5#3)).emit (.lineAssert 5#3) := by decide

/-- V40: the shared line is left deasserted while source 7 is pending. -/
theorem test_src0_15_deasserted : (after (.src0_15 3 .deasserted) bothPending).isr = 0x000080#24 ∧
    (after (.src0_15 3 .deasserted) bothPending).trace = [.lineClear 5#3] := by decide

/-- V42: source 23 on line 7. -/
theorem test_src16_23_asserted : (after (.src16_23 23 .asserted) (withIcr 23 0xF#4)).isr = 0x800000#24 ∧
    (after (.src16_23 23 .asserted) (withIcr 23 0xF#4)).trace = [.lineClear 7#3, .lineAssert 7#3] := by decide

/-- V33: a disabled source's deassertion is lost. -/
theorem test_src_disabled : after (.src0_15 5 .deasserted) ((withIcr 5 0x4#4).setIsr 0x000020#24) =
    (withIcr 5 0x4#4).setIsr 0x000020#24 := by decide

/-! ## Reset -/

/-- V44: every register to zero, the trace restarted, no event. -/
theorem test_rst : after .rst (((bothPending.setCcr 0x7F#8).setAbr 0 0xA5#8).emit (.lineAssert 5#3)) =
    State.reset := by decide

/-! ## Witnesses: hypotheses of the statements, met together -/

theorem witness_step_performs :
    (State.reset.setPending [.read 0]).pending = .read 0 :: [] ∧ decodeRequest (.read 0) = .ok .rdCcr := ⟨rfl, rfl⟩

theorem witness_step_refuses :
    (State.reset.setPending [.source 24 .asserted]).pending = .source 24 .asserted :: [] ∧
      decodeRequest (.source 24 .asserted) = .error .sourceIndexOutOfRange := ⟨rfl, rfl⟩

theorem witness_step_idle : State.reset.pending = [] := rfl

theorem witness_fetched_word : decodeTableWord 24 0x1FFFF = some (.wrOor128_255 255 0xFF#8) := by decide

theorem witness_decode_of_encode : (Instr.wrOor128_255 255 0xFF#8).wellFormed = true ∧
    (Instr.wrOor128_255 255 0xFF#8).fitsWord = true := by decide

theorem witness_encode_of_decode : decodeWord 0x21701#18 = .ok (.src16_23 23 .asserted) := rfl

theorem witness_requests : (Instr.rdOor128_255 300).wellFormed = true ∧ (∀ w, Request.read 300 ≠ .word w) ∧
    decodeRequest (.read 300) = .ok (.rdOor128_255 300) := ⟨rfl, nofun, rfl⟩

theorem witness_opcode_rows : Instr.rst.row ∈ opcodeTable ∧ 0x30000#18 &&& Instr.rst.row.mask = Instr.rst.row.pattern := by
  decide

theorem witness_reserved_word : decodeWord 0x20302#18 = .error .sourceDataNotZero ∧
    ∀ r ∈ opcodeTable, 0x20302#18 &&& r.mask ≠ r.pattern := by decide

/-- The boundary words of each refused class, and their lawful neighbours. -/
theorem witness_ill_formed_boundaries :
    [0x00001, 0x00000, 0x21700, 0x21800, 0x20301, 0x20303, 0x30000, 0x30001].map (fun w => (decodeTableWord 24 w).isSome) =
    [false, true, true, false, true, false, true, false] := by decide

theorem witness_placeholder_write : (6, Instr.wrIsar) ∈
    [(1, Instr.wrDcr), (2, Instr.wrFcr), (3, Instr.wrPcr), (4, Instr.wrIder0), (5, Instr.wrIder1), (6, Instr.wrIsar)] := by
  simp

/-- Offsets 28, 31, 32 and 256, where the clauses of the reserved and out-of-range writes meet. -/
theorem witness_reserved_writes :
    decodeRequest (.write 28 0) = .ok (.wrRsv28_31 28 0) ∧ decodeRequest (.write 31 0) = .ok (.wrRsv28_31 31 0) ∧
    decodeRequest (.write 32 0) = .ok (.wrOor32_63 32 0) ∧ decodeRequest (.write 256 0) = .ok (.wrOor128_255 256 0) :=
  ⟨rfl, rfl, rfl, rfl⟩

theorem witness_wr_icr : Instr.wrIcrb8_11 11 0x9A#8 = .wrIcrb0_7 11 0x9A#8 ∨
    Instr.wrIcrb8_11 11 0x9A#8 = .wrIcrb8_11 11 0x9A#8 := .inr rfl

/-- Offsets 0, 7, 8, 15, 16, 27 and 28, where the clauses of the write statement meet. -/
theorem witness_write_clauses :
    [0, 7, 8, 15, 16, 27, 28].map (fun o => decide (o ≠ 0 ∧ ¬ (8 ≤ o ∧ o ≤ 27))) =
    [false, true, false, false, false, false, true] := by decide

theorem witness_placeholder_read : (7, Instr.rdOff7) ∈
    [(1, Instr.rdDcr), (2, Instr.rdFcr), (3, Instr.rdPcr), (4, Instr.rdIder0), (5, Instr.rdIder1), (6, Instr.rdIsar),
      (7, Instr.rdOff7)] := by decide

theorem witness_rd_isr : (16, Instr.rdIsrHi, 16) ∈ [(16, Instr.rdIsrHi, 16), (17, Instr.rdIsrMid, 8), (18, Instr.rdIsrLo, 0)] ∧
    7 < 8 := by decide

theorem witness_reserved_reads :
    decodeRequest (.read 26) = .ok (.rdRsv26_27 26) ∧ decodeRequest (.read 31) = .ok (.rdRsv28_31 31) ∧
    decodeRequest (.read 255) = .ok (.rdOor128_255 255) := ⟨rfl, rfl, rfl⟩

theorem witness_out_of_range : 32 ≤ 32 ∧ decodeRequest (.read 32) = .ok (.rdOor32_63 32) := ⟨Nat.le_refl 32, rfl⟩

/-- A number at each side of the 18-bit bound, and the host's view of the first. -/
theorem witness_numbers : 0x3FFFF < 2 ^ 18 ∧ 2 ^ 18 ≤ 0x40000 ∧
    decodeRequest (.word 0x30000) = .ok .rst ∧ decodeRequest (.word 0x40000) = .error .wordTooWide ∧
    decodeTableWord 24 0x30000 = some .rst := by decide

/-- Offsets 0, 7, 8, 15, 16, 18, 19, 25 and 26, where the clauses of the read-back statement meet: storage,
acknowledge, neither. -/
theorem witness_read_back_clauses :
    [0, 7, 8, 15, 16, 18, 19, 25, 26].map (fun o => (decide (o = 0 ∨ (8 ≤ o ∧ o ≤ 15)), decide (19 ≤ o ∧ o ≤ 25))) =
    [(true, false), (false, false), (true, false), (true, false), (false, false), (false, false),
      (false, true), (false, true), (false, false)] := by decide

/-- Offsets 18 and 26, just outside the acknowledge offsets. -/
theorem witness_plain_reads : ¬ (19 ≤ 18 ∧ 18 ≤ 25) ∧ ¬ (19 ≤ 26 ∧ 26 ≤ 25) := by decide

theorem witness_reserved_rows : Instr.rdRsv28_31 31 ∈
    [Instr.rdRsv26_27 31, .rdRsv28_31 31, .rdOor32_63 31, .rdOor64_127 31, .rdOor128_255 31] := by decide

theorem witness_acknowledge : (7#3, Instr.rdIack7) ∈
    [(1#3, Instr.rdIack1), (2#3, Instr.rdIack2), (3#3, Instr.rdIack3), (4#3, Instr.rdIack4), (5#3, Instr.rdIack5),
      (6#3, Instr.rdIack6), (7#3, Instr.rdIack7)] := by decide

theorem witness_repeated_acknowledge : ackLine .rdIack7 = some 7#3 := rfl

theorem witness_line_zero : (withIcr 0 0x8#4).icr[(0 : SourceIndex)].extractLsb' 0 3 = 0#3 := by decide

theorem witness_readings_agree : (∀ x : SourceIndex, bothPending.icr[x].extractLsb' 0 3 = 5#3 →
      bothPending.icr[x].getLsbD 3 = true) ∧ bothPending.icr[(0 : SourceIndex)].extractLsb' 0 3 ≠ 5#3 := by decide

theorem witness_notification_refused : 24 ≤ 24 ∧ (23 : SourceIndex).val = 23 := by decide

theorem witness_disabled_source : State.reset.icr[(23 : SourceIndex)].getLsbD 3 = false := by decide

theorem witness_enabled_source : (Instr.src16_23 23 .asserted = .src0_15 23 .asserted ∨
      Instr.src16_23 23 .asserted = .src16_23 23 .asserted) ∧
    (withIcr 23 0xF#4).icr[(23 : SourceIndex)].getLsbD 3 = true := by decide

theorem witness_deasserted_source : (Instr.src0_15 3 .deasserted = .src0_15 3 .deasserted ∨
      Instr.src0_15 3 .deasserted = .src16_23 3 .deasserted) ∧
    bothPending.icr[(3 : SourceIndex)].getLsbD 3 = true := by decide

theorem witness_repeated_assertion : sourceOf (.src0_15 3 .asserted) = some (3, .asserted) ∧
    (withIcr 3 0xD#4).icr[(3 : SourceIndex)].getLsbD 3 = true := by decide

/-- A change of each register, by an operation the list names. -/
theorem witness_changes : (after (.wrCcr 0x10#8) State.reset).ccr ≠ State.reset.ccr ∧
    (after (.wrAbr 7 1) State.reset).abr[(7 : Fin 8)] ≠ State.reset.abr[(7 : Fin 8)] ∧
    (after (.wrIcrb8_11 11 1) State.reset).icr[(23 : SourceIndex)] ≠ State.reset.icr[(23 : SourceIndex)] ∧
    isrBit (after .rdIack5 bothPending).isr 3 ≠ isrBit bothPending.isr 3 := by decide

theorem witness_changes_next : exec .rdIack5 bothPending = .next (after .rdIack5 bothPending) := rfl

theorem witness_isr_bit : sourceOf (.src0_15 3 .deasserted) = some (3, .deasserted) ∧
    bothPending.icr[(3 : SourceIndex)].getLsbD 3 = true ∧
    ackLine .rdIack5 = some (bothPending.icr[(3 : SourceIndex)].extractLsb' 0 3) ∧
    ackLine .rdIsrLo ≠ some (bothPending.icr[(3 : SourceIndex)].extractLsb' 0 3) ∧ Instr.rdIsrLo ≠ .rst := by decide

theorem witness_isr_bit_unchanged : ∀ l, sourceOf .rdIsrLo = some ((3 : SourceIndex), l) →
    bothPending.icr[(3 : SourceIndex)].getLsbD 3 = false := nofun

theorem witness_line_level : ackLine .rdIack5 = some 5#3 ∧ sourceOf (.src0_15 3 .asserted) = some (3, .asserted) ∧
    bothPending.icr[(3 : SourceIndex)].extractLsb' 0 3 = 5#3 ∧ ackLine (.wrDcr 0) ≠ some 5#3 ∧
    sourceOf (.wrDcr 0) = none := by decide

theorem witness_clock_switch : exec (.wrCcr 0x10#8) State.reset = .next (after (.wrCcr 0x10#8) State.reset) ∧
    Instr.wrCcr 0x10#8 ≠ .rst ∧ ∀ v, Instr.rdCcr ≠ .wrCcr v := ⟨rfl, nofun, nofun⟩

theorem witness_masked_pending : (((withIcr 0 0x1#4).setIsr 0x000001#24).icr[(0 : SourceIndex)].getLsbD 3 = false) ∧
    isrBit 0x000001#24 0 = true ∧
    isrBit (after .rdIack1 ((withIcr 0 0x1#4).setIsr 0x000001#24)).isr 0 = false := by decide

/-- Reset with one request waiting meets each invariant, and its step is a next state. -/
theorem witness_clock_invariant : (State.reset.setPending [.write 0 0x10#8]).clockTracksCcr ∧
    step (State.reset.setPending [.write 0 0x10#8]) = .next (after (.wrCcr 0x10#8) State.reset) := ⟨rfl, rfl⟩

theorem witness_pulse_invariant : pulsesOnly ((withIcr 3 0xD#4).setPending [.source 3 .asserted]).trace ∧
    step ((withIcr 3 0xD#4).setPending [.source 3 .asserted]) =
      .next (after (.src0_15 3 .asserted) (withIcr 3 0xD#4)) := ⟨nofun, rfl⟩

theorem witness_wired_invariant :
    ((withIcr 3 0xD#4).setPending [.source 3 .asserted]).onlyWiredPending Config.wired ∧
    step ((withIcr 3 0xD#4).setPending [.source 3 .asserted]) =
      .next (after (.src0_15 3 .asserted) (withIcr 3 0xD#4)) := ⟨by unfold State.onlyWiredPending; decide, rfl⟩

/-- `WIRED` refuses an unwired source, so the invariant says something. -/
theorem witness_wired_excludes : requestFromWired Config.wired (.source 13 .asserted) = false := by decide

theorem witness_legal_timeline :
    (State.reset.setPending [.reset, .write 17 0x0D#8, .source 3 .asserted, .read 300]).allLegal = true := by decide

/-- Reads before and after an ABR's read, one of them a stimulus word. -/
theorem witness_abrs : agreeButAbr (bothPending.setPending [.read 16, .read 11, .word 0x01700])
      ((bothPending.setAbr 3 0x5A#8).setPending [.read 16, .read 11, .word 0x01700]) ∧
    readsOf [.read 16, .read 11, .word 0x01700] = [.rdIsrHi, .rdAbr 3, .rdIack5] :=
  ⟨⟨rfl, rfl, rfl, rfl, rfl⟩, by decide⟩

theorem witness_lost_notification : State.reset.icr[(16 : SourceIndex)].getLsbD 3 = false ∧
    isrBit State.reset.isr 16 = false := by decide

theorem witness_shared_line : (3 : SourceIndex) ≠ 7 ∧ bothPending.icr[(3 : SourceIndex)].getLsbD 3 = true ∧
    bothPending.icr[(3 : SourceIndex)].extractLsb' 0 3 = bothPending.icr[(7 : SourceIndex)].extractLsb' 0 3 ∧
    isrBit bothPending.isr 7 = true := by decide

/-- V41: source 4 moved from line 2 to line 6. -/
theorem witness_rerouted_source : (0xE#4 : IcrEntry) = (if (4 : SourceIndex).val % 2 = 0 then (0xE0#8).extractLsb' 4 4 else
      (0xE0#8).extractLsb' 0 4) ∧ (withIcr 4 0xA#4).icr[(4 : SourceIndex)].getLsbD 3 = true ∧
    (0xE#4 : IcrEntry).getLsbD 3 = true ∧
    (0xE#4 : IcrEntry).extractLsb' 0 3 ≠ (withIcr 4 0xA#4).icr[(4 : SourceIndex)].extractLsb' 0 3 ∧
    ((withIcr 4 0xA#4).setPending [.source 4 .asserted, .write 18 0xE0#8, .source 4 .deasserted]).pending =
      [.source 4 .asserted, .write (16 + (4 : SourceIndex).val / 2) 0xE0#8, .source 4 .deasserted] ++ [] := by decide

theorem witness_rdisr : (bothPending.setPending pseudoRdIsr).pending = pseudoRdIsr ++ [] := rfl

theorem witness_iack : (7#3 : LineNum) ≠ 0#3 ∧ pseudoIack 7#3 = .read 25 := by decide

end Sys2Proof.Tests
end

section
/-! The step on a waiting request, the totality of `exec`, and the timeline of legal requests
(spec/00_scope.md R8, spec/20_memory.md R43). -/

namespace Sys2Proof.Machine

/-- No operation faults or is refused, whatever its operands (spec/60_exceptions.md R96, R97). -/
theorem exec_next (i : Instr) (s : State) : ∃ t, exec i s = .next t := by
  cases i <;> exact ⟨_, rfl⟩

/-! The step, one equation per case. -/

theorem step_idle {s : State} (hp : s.pending = []) : step s = .next s := by
  simp [step, hp]

theorem step_performs {s : State} {r : Request} {rest : List Request} {i : Instr}
    (hp : s.pending = r :: rest) (hd : decodeRequest r = .ok i) : step s = exec i (s.setPending rest) := by
  simp [step, hp, hd]

/-! Legal requests and timelines. -/

theorem legalRequest_iff {r : Request} : legalRequest r = true ↔ ∃ i, decodeRequest r = .ok i := by
  unfold legalRequest
  cases decodeRequest r <;> simp

/-- What is left of a legal timeline is legal. -/
theorem State.allLegal_of_pending_drop {s t : State} {n : Nat} (hs : s.allLegal = true)
    (ht : t.pending = s.pending.drop n) : t.allLegal = true := by
  simp only [State.allLegal, List.all_eq_true, ht] at hs ⊢
  exact fun r hr => hs r (List.mem_of_mem_drop hr)

/-- On a legal timeline a step answers a next state and uses up the first request. -/
theorem step_next_of_allLegal {s : State} (hs : s.allLegal = true) :
    ∃ t, step s = .next t ∧ t.pending = s.pending.drop 1 := by
  cases hp : s.pending with
  | nil => exact ⟨s, step_idle hp, hp⟩
  | cons r rest =>
    have hr : legalRequest r = true := List.all_eq_true.mp hs r (by simp [hp])
    obtain ⟨i, hd⟩ := legalRequest_iff.mp hr
    obtain ⟨t, ht⟩ := exec_next i (s.setPending rest)
    exact ⟨t, (step_performs hp hd).trans ht, by simp [exec_pending ht]⟩

/-- A run of `n` steps on a legal timeline uses up its first `n` requests. -/
theorem run_next_of_allLegal (n : Nat) {s : State} (hs : s.allLegal = true) :
    ∃ t : State, Host.Core.run Sys2Proof.core n s = .next t ∧ t.pending = s.pending.drop n := by
  induction n generalizing s with
  | zero => exact ⟨s, rfl, rfl⟩
  | succ n ih =>
    obtain ⟨t, hstep, htp⟩ := step_next_of_allLegal hs
    obtain ⟨u, hrun, hup⟩ := ih (State.allLegal_of_pending_drop hs htp)
    exact ⟨u, (run_next hstep n).trans hrun, by rw [hup, htp, List.drop_drop, Nat.add_comm]⟩

/-- Settles O52, by induction on the number of steps: each step on a legal timeline is performed and leaves
the rest of the timeline, which is legal. -/
theorem legalTimelineIsPerformedToItsEnd : Obligations.LegalTimelineIsPerformedToItsEnd := by
  intro s hs n
  obtain ⟨t, hrun, htp⟩ := run_next_of_allLegal n hs
  exact ⟨t, hrun, State.allLegal_of_pending_drop hs htp, htp⟩

end Sys2Proof.Machine
end

section
/-! The derived quantities after each shared operation (spec/10_state.md R30): the level of every line and
the selected clock. -/

namespace Sys2Proof.Machine

variable (s : State)

/-! Operations that emit nothing move no line and keep the clock; reset starts both afresh. -/

@[simp] theorem State.line_deliver (b : Byte) (n : LineNum) : (s.deliver b).line n = s.line n := rfl
@[simp] theorem State.line_setAbr (a : Fin 8) (v : Byte) (n : LineNum) : (s.setAbr a v).line n = s.line n := rfl
@[simp] theorem State.line_setIsr (w : IsrWord) (n : LineNum) : (s.setIsr w).line n = s.line n := rfl
@[simp] theorem State.line_writeIcrByte (k : Fin 12) (v : Byte) (n : LineNum) :
    (s.writeIcrByte k v).line n = s.line n := rfl
@[simp] theorem State.line_resetRegisters (n : LineNum) : s.resetRegisters.line n = false := rfl

@[simp] theorem State.clk_deliver (b : Byte) : (s.deliver b).clk = s.clk := rfl
@[simp] theorem State.clk_setAbr (a : Fin 8) (v : Byte) : (s.setAbr a v).clk = s.clk := rfl
@[simp] theorem State.clk_setIsr (w : IsrWord) : (s.setIsr w).clk = s.clk := rfl
@[simp] theorem State.clk_writeIcrByte (k : Fin 12) (v : Byte) : (s.writeIcrByte k v).clk = s.clk := rfl
@[simp] theorem State.clk_resetRegisters : s.resetRegisters.clk = clkOf 0x00#8 := rfl

/-! Operations that emit events. -/

@[simp] theorem State.line_writeCcr (v : Byte) (n : LineNum) : (s.writeCcr v).line n = s.line n :=
  State.line_emit (s.setCcr v) (.setClock (clkOf v)) n

@[simp] theorem State.clk_writeCcr (v : Byte) : (s.writeCcr v).clk = clkOf v :=
  State.clk_emit (s.setCcr v) (.setClock (clkOf v))

/-- An acknowledge leaves its line deasserted and every other line as it was (spec/41_register_read.md R85). -/
theorem State.acknowledge_line (n m : LineNum) :
    (s.acknowledge n).line m = if n = m then false else s.line m := by
  simp [State.acknowledge, lineAfter]

@[simp] theorem State.clk_acknowledge (n : LineNum) : (s.acknowledge n).clk = s.clk := by
  simp [State.acknowledge, clkAfter]

@[simp] theorem State.clk_pulseLine (n : LineNum) (l : Level) : (s.pulseLine n l).clk = s.clk := by
  cases l <;> simp [State.pulseLine, clkAfter]

/-- A notification moves the line its source selects, to the level, and only if the source is enabled
(spec/42_source_router.md R90). -/
theorem State.notify_line (x : SourceIndex) (l : Level) (m : LineNum) :
    (s.notify x l).line m =
      if icrEnable s.icr[x] = true ∧ m = icrLine s.icr[x] then l.bit else s.line m := by
  cases h : icrEnable s.icr[x] with
  | false => simp [State.notify_disabled s h]
  | true => simp [State.notify_enabled s h, State.pulseLine_line]

@[simp] theorem State.clk_notify (x : SourceIndex) (l : Level) : (s.notify x l).clk = s.clk := by
  cases h : icrEnable s.icr[x] with
  | false => rw [State.notify_disabled s h]
  | true => simp [State.notify_enabled s h]

end Sys2Proof.Machine
end

section
/-! Who may change what (spec/10_state.md R14, R17, R24, R30, R31): for each register, and for the lines and
the clock derived from the trace, the operations that can change it and what they leave there. -/

namespace Sys2Proof.Machine

/-! The operations that notify, acknowledge or write an ICR byte, known by what they name. -/

theorem exec_of_sourceOf {i : Instr} {x : SourceIndex} {l : Level} (h : sourceOf i = some (x, l)) (s : State) :
    exec i s = .next (s.notify x l) := by
  cases i <;> cases h <;> rfl

theorem exec_of_ackLine {i : Instr} {n : LineNum} (h : ackLine i = some n) (s : State) :
    exec i s = .next (s.acknowledge n) := by
  cases i <;> cases h <;> rfl

theorem icrByteWritten_eq_some {i : Instr} {k : Fin 12} {v : Byte} :
    icrByteWritten i = some (k, v) ↔ i = .wrIcrb0_7 k v ∨ i = .wrIcrb8_11 k v := by
  cases i <;> simp [icrByteWritten]

theorem State.setAbr_abr_other (s : State) {a j : Fin 8} (v : Byte) (h : j ≠ a) :
    (s.setAbr a v).abr[j] = s.abr[j] := by
  have hne : a.val ≠ j.val := fun e => h (Fin.ext e.symm)
  simp [hne]

/-- A proof about the state an operation leads to, by the shape of that state: `exec_shape` as an
eliminator with one named case per shape. -/
theorem exec_cases {i : Instr} {s : State} {motive : (t : State) → exec i s = .next t → Prop}
    (unchanged : ∀ h, motive s h)
    (deliver : ∀ b h, motive (s.deliver b) h)
    (writeCcr : ∀ v, i = .wrCcr v → ∀ h, motive (s.writeCcr v) h)
    (setAbr : ∀ a v, i = .wrAbr a v → ∀ h, motive (s.setAbr a v) h)
    (writeIcrByte : ∀ k v, icrByteWritten i = some (k, v) → ∀ h, motive (s.writeIcrByte k v) h)
    (acknowledge : ∀ n, ackLine i = some n → ∀ h, motive (s.acknowledge n) h)
    (notify : ∀ x l, sourceOf i = some (x, l) → ∀ h, motive (s.notify x l) h)
    (resetRegisters : i = .rst → ∀ h, motive s.resetRegisters h)
    (t : State) (h : exec i s = .next t) : motive t h := by
  rcases exec_shape h with rfl | ⟨b, rfl⟩ | ⟨v, hi, rfl⟩ | ⟨a, v, hi, rfl⟩ | ⟨k, v, hi, rfl⟩ | ⟨n, hi, rfl⟩ |
    ⟨x, l, hi, rfl⟩ | ⟨hi, rfl⟩
  · exact unchanged h
  · exact deliver b h
  · exact writeCcr v hi h
  · exact setAbr a v hi h
  · exact writeIcrByte k v hi h
  · exact acknowledge n hi h
  · exact notify x l hi h
  · exact resetRegisters hi h

section
variable {i : Instr} {s t : State} (h : exec i s = .next t)
include h

theorem exec_ccr_eq_or : t.ccr = s.ccr ∨ i = .rst ∨ ∃ v, i = .wrCcr v := by
  induction t, h using exec_cases with
  | writeCcr v hi => exact .inr (.inr ⟨v, hi⟩)
  | resetRegisters hi => exact .inr (.inl hi)
  | _ => exact .inl (by simp)

theorem exec_abr_eq_or (j : Fin 8) : t.abr[j] = s.abr[j] ∨ i = .rst ∨ ∃ v, i = .wrAbr j v := by
  induction t, h using exec_cases with
  | setAbr a v hi =>
    by_cases hj : j = a
    · exact .inr (.inr ⟨v, hj ▸ hi⟩)
    · exact .inl (State.setAbr_abr_other s v hj)
  | resetRegisters hi => exact .inr (.inl hi)
  | _ => exact .inl (by simp)

theorem exec_icr_eq_or (x : SourceIndex) :
    t.icr[x] = s.icr[x] ∨ i = .rst ∨ ∃ k v, icrByteWritten i = some (k, v) ∧ k.val = x.val / 2 := by
  induction t, h using exec_cases with
  | writeIcrByte k v hi =>
    by_cases hk : k.val = x.val / 2
    · exact .inr (.inr ⟨k, v, hi, hk⟩)
    · exact .inl (by rw [State.writeIcrByte_icr, if_neg (by omega), if_neg (by omega)])
  | resetRegisters hi => exact .inr (.inl hi)
  | _ => exact .inl (by simp)

theorem exec_isrBit_eq_or (x : SourceIndex) :
    isrBit t.isr x = isrBit s.isr x ∨ i = .rst ∨
      (∃ l, sourceOf i = some (x, l) ∧ icrEnable s.icr[x] = true) ∨ ackLine i = some (icrLine s.icr[x]) := by
  induction t, h using exec_cases with
  | acknowledge n hi =>
    by_cases hn : icrLine s.icr[x] = n
    · exact .inr (.inr (.inr (hn ▸ hi)))
    · exact .inl (by rw [State.acknowledge_isr_bit, beq_false_of_ne hn, Bool.not_false, Bool.and_true])
  | notify y l hi =>
    by_cases hx : icrEnable s.icr[y] = true ∧ x = y
    · obtain ⟨hen, rfl⟩ := hx
      exact .inr (.inr (.inl ⟨l, hi, hen⟩))
    · exact .inl (by rw [State.notify_isr_bit, if_neg hx])
  | resetRegisters hi => exact .inr (.inl hi)
  | _ => exact .inl (by simp)

theorem exec_line_eq_or (n : LineNum) :
    t.line n = s.line n ∨ i = .rst ∨
      (∃ x l, sourceOf i = some (x, l) ∧ icrEnable s.icr[x] = true ∧ icrLine s.icr[x] = n) ∨
      ackLine i = some n := by
  induction t, h using exec_cases with
  | acknowledge m hi =>
    by_cases hm : m = n
    · exact .inr (.inr (.inr (hm ▸ hi)))
    · exact .inl (by rw [State.acknowledge_line, if_neg hm])
  | notify x l hi =>
    by_cases hx : icrEnable s.icr[x] = true ∧ n = icrLine s.icr[x]
    · obtain ⟨hen, hn⟩ := hx
      exact .inr (.inr (.inl ⟨x, l, hi, hen, hn.symm⟩))
    · exact .inl (by rw [State.notify_line, if_neg hx])
  | resetRegisters hi => exact .inr (.inl hi)
  | _ => exact .inl (by simp)

/-- The write of CCR selects the clock of the byte stored, reset that of 0x00, and nothing else touches CCR
or the clock (spec/10_state.md R17). -/
theorem exec_keeps_clockTracksCcr (hs : s.clockTracksCcr) : t.clockTracksCcr := by
  unfold State.clockTracksCcr at hs ⊢
  induction t, h using exec_cases with
  | writeCcr v _ => rw [State.clk_writeCcr, State.writeCcr_ccr]
  | resetRegisters _ => rw [State.clk_resetRegisters, State.resetRegisters_ccr]
  | _ => simp [hs]

end

/-- Settles O49: an idle step changes nothing, and every operation keeps the invariant. -/
theorem stepKeepsClockTrackingCcr : Obligations.StepKeepsClockTrackingCcr := by
  intro s t hs h
  rcases step_shape h with ⟨_, rfl⟩ | ⟨_, rest, _, _, _, hexec⟩
  · exact hs
  · exact exec_keeps_clockTracksCcr (s := s.setPending rest) hexec hs

/-- Settles O44, register by register. -/
theorem onlyTheListedOperationsChangeState : Obligations.OnlyTheListedOperationsChangeState := by
  intro i s t h
  refine ⟨(exec_ccr_eq_or h).resolve_left, fun j => (exec_abr_eq_or h j).resolve_left, fun x hx => ?_,
    fun x => (exec_isrBit_eq_or h x).resolve_left⟩
  refine ((exec_icr_eq_or h x).resolve_left hx).imp_right ?_
  rintro ⟨k, v, hi, hk⟩
  exact ⟨k, v, icrByteWritten_eq_some.mp hi, hk⟩

/-- Settles O45: a notification, an acknowledge and reset by what each does to the bit, every other operation
because it is on none of the lists. -/
theorem isrBitFollowsItsRule : Obligations.IsrBitFollowsItsRule := by
  intro i s
  obtain ⟨t, h⟩ := exec_next i s
  refine ⟨t, h, fun x => ⟨fun l hi hen => ?_, fun hi => ?_, fun hi => ?_, fun hsrc hack hrst => ?_⟩⟩
  · cases (exec_of_sourceOf hi s).symm.trans h
    rw [State.notify_isr_bit, if_pos ⟨hen, rfl⟩]
  · cases (exec_of_ackLine hi s).symm.trans h
    simp [State.acknowledge_isr_bit, icrLine]
  · subst hi
    cases h
    exact isrBit_zero x
  · rcases exec_isrBit_eq_or h x with heq | hi | ⟨l, hi, hen⟩ | hi
    · exact heq
    · exact absurd hi hrst
    · exact absurd ((hsrc l hi).symm.trans hen) Bool.false_ne_true
    · exact absurd hi hack

/-- Settles O46: reset, an acknowledge and a notification by what each does to the line, every other operation
because it is on none of the lists. -/
theorem lineLevelFollowsItsRule : Obligations.LineLevelFollowsItsRule := by
  intro i s n
  obtain ⟨t, h⟩ := exec_next i s
  refine ⟨t, h, fun hi => ?_, fun hi => ?_, fun x l hi hen hn => ?_, fun hsrc hack hrst => ?_⟩
  · subst hi
    cases h
    exact State.line_resetRegisters s n
  · cases (exec_of_ackLine hi s).symm.trans h
    rw [State.acknowledge_line, if_pos rfl]
  · cases (exec_of_sourceOf hi s).symm.trans h
    rw [State.notify_line, if_pos ⟨hen, hn.symm⟩]
  · rcases exec_line_eq_or h n with heq | hi | ⟨x, l, hi, hen, hn⟩ | hi
    · exact heq
    · exact absurd hi hrst
    · exact absurd hn (hsrc x l hi hen)
    · exact absurd hi hack

/-- Settles O11: reset is written with these values. -/
theorem resetStateHasZeroRegisters : Obligations.ResetStateHasZeroRegisters :=
  ⟨State.reset_ccr, fun i => by simp, fun x => by simp, State.reset_isr⟩

end Sys2Proof.Machine
end

section
/-! Noninterference of the ABRs (spec/10_state.md R19): every operation keeps `agreeButAbr` and hands over
the same byte from both states, the reads of the ABRs' own offsets excepted. -/

namespace Sys2Proof.Machine

/-! Each shared operation keeps the agreement. -/

section
variable {s s' : State} (hs : agreeButAbr s s')
include hs

theorem agreeButAbr_deliver (b b' : Byte) : agreeButAbr (s.deliver b) (s'.deliver b') := hs

theorem agreeButAbr_setAbr (a : Fin 8) (v : Byte) : agreeButAbr (s.setAbr a v) (s'.setAbr a v) := hs

theorem agreeButAbr_setPending (rs : List Request) : agreeButAbr (s.setPending rs) (s'.setPending rs) := by
  obtain ⟨hccr, hicr, hisr, htrace, -⟩ := hs
  exact ⟨hccr, hicr, hisr, htrace, rfl⟩

theorem agreeButAbr_setIsr (w : IsrWord) : agreeButAbr (s.setIsr w) (s'.setIsr w) := by
  obtain ⟨hccr, hicr, -, htrace, hpending⟩ := hs
  exact ⟨hccr, hicr, rfl, htrace, hpending⟩

theorem agreeButAbr_emit (e : Event) : agreeButAbr (s.emit e) (s'.emit e) := by
  obtain ⟨hccr, hicr, hisr, htrace, hpending⟩ := hs
  exact ⟨hccr, hicr, hisr, by simp [htrace], hpending⟩

theorem agreeButAbr_writeCcr (v : Byte) : agreeButAbr (s.writeCcr v) (s'.writeCcr v) := by
  obtain ⟨-, hicr, hisr, htrace, hpending⟩ := hs
  exact ⟨rfl, hicr, hisr, by simp [htrace], hpending⟩

theorem agreeButAbr_writeIcrByte (k : Fin 12) (v : Byte) :
    agreeButAbr (s.writeIcrByte k v) (s'.writeIcrByte k v) := by
  obtain ⟨hccr, hicr, hisr, htrace, hpending⟩ := hs
  exact ⟨hccr, by simp [State.writeIcrByte, hicr], hisr, htrace, hpending⟩

theorem agreeButAbr_resetRegisters : agreeButAbr s.resetRegisters s'.resetRegisters := by
  obtain ⟨-, -, -, -, hpending⟩ := hs
  exact ⟨rfl, rfl, rfl, rfl, hpending⟩

theorem agreeButAbr_pulseLine (n : LineNum) : ∀ l, agreeButAbr (s.pulseLine n l) (s'.pulseLine n l)
  | .deasserted => agreeButAbr_emit hs _
  | .asserted => agreeButAbr_emit (agreeButAbr_emit hs _) _

theorem agreeButAbr_notify (x : SourceIndex) (l : Level) : agreeButAbr (s.notify x l) (s'.notify x l) := by
  obtain ⟨-, hicr, hisr, -, -⟩ := id hs
  unfold State.notify
  rw [← hicr, ← hisr]
  split
  · exact agreeButAbr_pulseLine (agreeButAbr_setIsr hs _) _ l
  · exact hs

theorem agreeButAbr_acknowledge (n : LineNum) : agreeButAbr (s.acknowledge n) (s'.acknowledge n) := by
  obtain ⟨-, hicr, hisr, -, -⟩ := id hs
  unfold State.acknowledge
  rw [← hicr, ← hisr]
  exact agreeButAbr_deliver (agreeButAbr_emit (agreeButAbr_setIsr hs _) _) _ _

end

/-! The bytes two runs hand over. -/

/-- One request's read, if it is one, comes before those of the rest. -/
theorem readsOf_cons {r : Request} {i : Instr} (rs : List Request) (hd : decodeRequest r = .ok i) :
    readsOf (r :: rs) = [i].filter isRead ++ readsOf rs := by
  cases hr : isRead i with
  | true => simp [readsOf_cons_read rs hd hr, hr]
  | false => simp [readsOf_cons_other rs hd hr, hr]

theorem agreeButAbrReads_append {is js : List Instr} {bs bs' cs cs' : List Byte}
    (hb : agreeButAbrReads is bs bs') (hc : agreeButAbrReads js cs cs') :
    agreeButAbrReads (is ++ js) (bs ++ cs) (bs' ++ cs') := by
  obtain ⟨hbl, hbl', hbk⟩ := hb
  obtain ⟨hcl, hcl', hck⟩ := hc
  refine ⟨by simp [hbl, hcl], by simp [hbl', hcl'], fun k j hj hn => ?_⟩
  by_cases hk : k < is.length
  · rw [List.getElem?_append_left hk] at hj
    rw [List.getElem?_append_left (hbl ▸ hk), List.getElem?_append_left (hbl' ▸ hk)]
    exact hbk k j hj hn
  · rw [not_lt] at hk
    rw [List.getElem?_append_right hk] at hj
    rw [List.getElem?_append_right (hbl ▸ hk), List.getElem?_append_right (hbl' ▸ hk), hbl, hbl']
    exact hck _ j hj hn

/-- Two runs, from `s` to `t` and from `s'` to `t'`, that end in agreement and have performed `reads`, with
the same bytes handed over at every read but those of the ABRs. -/
structure InStep (reads : List Instr) (s s' t t' : State) : Prop where
  agree : agreeButAbr t t'
  bytes : ∃ bs bs', t.readData = s.readData ++ bs ∧ t'.readData = s'.readData ++ bs' ∧
    agreeButAbrReads reads bs bs'

theorem InStep.silent {s s' t t' : State} (ht : agreeButAbr t t') (hr : t.readData = s.readData)
    (hr' : t'.readData = s'.readData) : InStep [] s s' t t' :=
  ⟨ht, [], [], by simp [hr], by simp [hr'], agreeButAbrReads_nil⟩

theorem InStep.read {i : Instr} {s s' t t' : State} {b b' : Byte} (ht : agreeButAbr t t')
    (hr : t.readData = s.readData ++ [b]) (hr' : t'.readData = s'.readData ++ [b'])
    (hb : (∀ a, i ≠ .rdAbr a) → b = b') : InStep [i] s s' t t' :=
  ⟨ht, [b], [b'], hr, hr', agreeButAbrReads_cons hb agreeButAbrReads_nil⟩

theorem InStep.deliver {i : Instr} {s s' : State} {b b' : Byte} (hs : agreeButAbr s s')
    (hb : (∀ a, i ≠ .rdAbr a) → b = b') : InStep [i] s s' (s.deliver b) (s'.deliver b') :=
  .read (agreeButAbr_deliver hs b b') rfl rfl hb

/-- The acknowledge's count is that of the ICR entries, which agree. -/
theorem InStep.acknowledge (i : Instr) {s s' : State} (hs : agreeButAbr s s') (n : LineNum) :
    InStep [i] s s' (s.acknowledge n) (s'.acknowledge n) := by
  obtain ⟨-, hicr, -, -, -⟩ := id hs
  exact .read (agreeButAbr_acknowledge hs n) (s.acknowledge_readData n) (s'.acknowledge_readData n)
    fun _ => by rw [hicr]

theorem InStep.trans {is js : List Instr} {s s' t t' u u' : State} (h : InStep is s s' t t')
    (k : InStep js t t' u u') : InStep (is ++ js) s s' u u' := by
  obtain ⟨-, bs, bs', ht, ht', hb⟩ := h
  obtain ⟨hagree, cs, cs', hu, hu', hc⟩ := k
  exact ⟨hagree, bs ++ cs, bs' ++ cs', by rw [hu, ht, List.append_assoc], by rw [hu', ht', List.append_assoc],
    agreeButAbrReads_append hb hc⟩

/-- Every operation, performed on two states that agree: which state's ABR a read returns is all that can
differ. -/
theorem exec_inStep {i : Instr} {s s' t t' : State} (hs : agreeButAbr s s') (h : exec i s = .next t)
    (h' : exec i s' = .next t') : InStep ([i].filter isRead) s s' t t' := by
  obtain ⟨hccr, -, hisr, -, -⟩ := id hs
  cases i <;> cases h <;> cases h'
  case rdCcr => exact .deliver hs fun _ => hccr
  case rdAbr a => exact .deliver hs fun hne => absurd rfl (hne a)
  case rdIsrHi => exact .deliver hs fun _ => congrArg isrHigh hisr
  case rdIsrMid => exact .deliver hs fun _ => congrArg isrMiddle hisr
  case rdIsrLo => exact .deliver hs fun _ => congrArg isrLow hisr
  case rdIack1 | rdIack2 | rdIack3 | rdIack4 | rdIack5 | rdIack6 | rdIack7 => exact .acknowledge _ hs _
  case rdDcr | rdFcr | rdPcr | rdIder0 | rdIder1 | rdIsar | rdOff7 | rdRsv26_27 | rdRsv28_31 | rdOor32_63 |
      rdOor64_127 | rdOor128_255 => exact .deliver hs fun _ => rfl
  case wrCcr v => exact .silent (agreeButAbr_writeCcr hs v) rfl rfl
  case wrAbr a v => exact .silent (agreeButAbr_setAbr hs a v) rfl rfl
  case wrIcrb0_7 k v | wrIcrb8_11 k v => exact .silent (agreeButAbr_writeIcrByte hs k v) rfl rfl
  case wrDcr | wrFcr | wrPcr | wrIder0 | wrIder1 | wrIsar | wrOff7 | wrRsv28_31 | wrOor32_63 | wrOor64_127 |
      wrOor128_255 => exact .silent hs rfl rfl
  case src0_15 x l | src16_23 x l =>
    exact .silent (agreeButAbr_notify hs x l) (State.notify_readData ..) (State.notify_readData ..)
  case rst => exact .silent (agreeButAbr_resetRegisters hs) rfl rfl

/-! The step and the run on two states that agree. -/

theorem step_refuses {s : State} {r : Request} {rest : List Request} {why : Reject}
    (hp : s.pending = r :: rest) (hd : decodeRequest r = .error why) : step s = .refused (.illFormedInput why) := by
  simp [step, hp, hd]

/-- A step from two states that agree is refused for one reason in both, or is in step and uses up the same
request. -/
theorem step_inStep {s s' : State} (hs : agreeButAbr s s') :
    (∃ t t', step s = .next t ∧ step s' = .next t' ∧ t.pending = s.pending.drop 1 ∧
      InStep (readsOf (s.pending.take 1)) s s' t t') ∨
    ∃ r, step s = .refused r ∧ step s' = .refused r := by
  obtain ⟨-, -, -, -, hpending⟩ := id hs
  cases hp : s.pending with
  | nil =>
    exact .inl ⟨s, s', step_idle hp, step_idle (hpending ▸ hp), hp, .silent hs rfl rfl⟩
  | cons r rest =>
    have hp' : s'.pending = r :: rest := hpending ▸ hp
    cases hd : decodeRequest r with
    | error why => exact .inr ⟨_, step_refuses hp hd, step_refuses hp' hd⟩
    | ok i =>
      obtain ⟨t, ht⟩ := exec_next i (s.setPending rest)
      obtain ⟨t', ht'⟩ := exec_next i (s'.setPending rest)
      obtain ⟨hagree, hbytes⟩ := exec_inStep (agreeButAbr_setPending hs rest) ht ht'
      have hreads : readsOf ((r :: rest).take 1) = [i].filter isRead := by
        rw [List.take_succ_cons, List.take_zero, readsOf_cons [] hd]
        exact List.append_nil _
      exact .inl ⟨t, t', (step_performs hp hd).trans ht, (step_performs hp' hd).trans ht', exec_pending ht,
        hagree, hreads ▸ hbytes⟩

/-- The reads of a timeline's first `n + 1` requests are those of its first, then of the next `n`. -/
theorem readsOf_take_succ (rs : List Request) (n : Nat) :
    readsOf (rs.take (n + 1)) = readsOf (rs.take 1) ++ readsOf ((rs.drop 1).take n) := by
  rw [Nat.add_comm, List.take_add, readsOf, List.filterMap_append, readsOf, readsOf]

/-- Two runs of `n` steps from states that agree stay in step, or are refused for one reason. -/
theorem run_inStep (n : Nat) {s s' : State} (hs : agreeButAbr s s') :
    (∃ t t' : State, Host.Core.run Sys2Proof.core n s = .next t ∧ Host.Core.run Sys2Proof.core n s' = .next t' ∧
      InStep (readsOf (s.pending.take n)) s s' t t') ∨
    ∃ r : Refusal, Host.Core.run Sys2Proof.core n s = .refused r ∧
      Host.Core.run Sys2Proof.core n s' = .refused r := by
  induction n generalizing s s' with
  | zero => exact .inl ⟨s, s', rfl, rfl, .silent hs rfl rfl⟩
  | succ n ih =>
    rcases step_inStep hs with ⟨t, t', hstep, hstep', hpending, hfirst⟩ | ⟨r, hr, hr'⟩
    · rw [run_next hstep, run_next hstep', readsOf_take_succ, ← hpending]
      rcases ih hfirst.agree with ⟨u, u', hrun, hrun', hrest⟩ | hrefused
      · exact .inl ⟨u, u', hrun, hrun', hfirst.trans hrest⟩
      · exact .inr hrefused
    · exact .inr ⟨r, run_refused hr n, run_refused hr' n⟩

/-- Settles O53: both runs stay in step, whatever their length. -/
theorem abrsAffectNothingElse : Obligations.AbrsAffectNothingElse := by
  intro n s s' hs
  rcases run_inStep n hs with ⟨t, t', hrun, hrun', hagree, bs, bs', hbytes, hbytes', hreads⟩ | hrefused
  · exact .inl ⟨t, t', bs, bs', hrun, hrun', hagree, hbytes, hbytes', hreads⟩
  · exact .inr hrefused

end Sys2Proof.Machine
end

section
/-! The register window, offset by offset (spec/20_memory.md R32 to R40): what the read and the write of an
offset do, each as one function of the offset, and the statements that follow from it. -/

namespace Sys2Proof.Machine

/-! The functions of the offset. -/

/-- The line acknowledged at an offset of 19 to 25 (spec/41_register_read.md R85). -/
def lineOfOffset (offset : Nat) : LineNum := BitVec.ofNat 3 (offset - 18)

/-- The byte the read of `offset` returns (spec/41_register_read.md R72). -/
def State.byteAt (s : State) (offset : Nat) : Byte :=
  if offset = 0 then s.ccr
  else if h : 8 ≤ offset ∧ offset ≤ 15 then s.abr[offset - 8]
  else if offset = 16 then isrHigh s.isr
  else if offset = 17 then isrMiddle s.isr
  else if offset = 18 then isrLow s.isr
  else if 19 ≤ offset ∧ offset ≤ 25 then
    countByte (ackLoop ackTestsEnable s.icr (lineOfOffset offset) s.isr).2
  else 0x00#8

/-- The state after the read of `offset`: the acknowledge of a line, or the byte handed over and nothing
else (spec/41_register_read.md R72). -/
def State.readOffset (s : State) (offset : Nat) : State :=
  if 19 ≤ offset ∧ offset ≤ 25 then s.acknowledge (lineOfOffset offset) else s.deliver (s.byteAt offset)

/-- The state after the write of `v` at `offset` (spec/40_register_write.md R59). -/
def State.writeOffset (s : State) (offset : Nat) (v : Byte) : State :=
  if offset = 0 then s.writeCcr v
  else if h : 8 ≤ offset ∧ offset ≤ 15 then s.setAbr ⟨offset - 8, by omega⟩ v
  else if h : 16 ≤ offset ∧ offset ≤ 27 then s.writeIcrByte ⟨offset - 16, by omega⟩ v
  else s

section
variable (s : State) {offset : Nat}

/-! The byte read, by the kind of offset. -/

theorem State.byteAt_abr (h : 8 ≤ offset ∧ offset ≤ 15) : s.byteAt offset = s.abr[offset - 8] := by
  rw [State.byteAt, if_neg (by omega), dif_pos h]

theorem State.byteAt_acknowledge (h : 19 ≤ offset ∧ offset ≤ 25) :
    s.byteAt offset = countByte (ackLoop ackTestsEnable s.icr (lineOfOffset offset) s.isr).2 := by
  simp (disch := omega) only [State.byteAt, if_neg, dif_neg, if_pos h]

theorem State.byteAt_reserved (h : 26 ≤ offset) : s.byteAt offset = 0x00#8 := by
  simp (disch := omega) only [State.byteAt, if_neg, dif_neg]

/-- Outside storage and the acknowledges a read sees the ISR alone. -/
theorem State.byteAt_congr {s t : State} (hisr : t.isr = s.isr)
    (hstorage : ¬ (offset = 0 ∨ (8 ≤ offset ∧ offset ≤ 15))) (hack : ¬ (19 ≤ offset ∧ offset ≤ 25)) :
    t.byteAt offset = s.byteAt offset := by
  obtain ⟨hccr, habr⟩ := not_or.mp hstorage
  simp only [State.byteAt, if_neg hccr, dif_neg habr, if_neg hack, hisr]

/-! The state after a read. -/

theorem State.readOffset_plain (h : ¬ (19 ≤ offset ∧ offset ≤ 25)) :
    s.readOffset offset = s.deliver (s.byteAt offset) :=
  if_neg h

theorem State.readOffset_readData : (s.readOffset offset).readData = s.readData ++ [s.byteAt offset] := by
  by_cases h : 19 ≤ offset ∧ offset ≤ 25
  · rw [State.readOffset, if_pos h, State.byteAt_acknowledge s h]
    rfl
  · rw [State.readOffset_plain s h, State.deliver_readData]

/-! The state after a write. -/

theorem State.writeOffset_abr (h : 8 ≤ offset ∧ offset ≤ 15) (v : Byte) :
    s.writeOffset offset v = s.setAbr ⟨offset - 8, by omega⟩ v := by
  rw [State.writeOffset, if_neg (by omega), dif_pos h]

theorem State.writeOffset_reserved (h : 28 ≤ offset) (v : Byte) : s.writeOffset offset v = s := by
  simp (disch := omega) only [State.writeOffset, if_neg, dif_neg]

@[simp] theorem State.writeOffset_isr (v : Byte) : (s.writeOffset offset v).isr = s.isr := by
  unfold State.writeOffset
  split_ifs <;> rfl

@[simp] theorem State.writeOffset_readData (v : Byte) : (s.writeOffset offset v).readData = s.readData := by
  unfold State.writeOffset
  split_ifs <;> rfl

end

/-! The model decodes and performs these functions: below 32 one offset at a time, from 32 up by the three
rows that cover every larger offset. -/

theorem exec_decodeRead (offset : Nat) (s : State) :
    exec (decodeRead offset) s = .next (s.readOffset offset) := by
  by_cases hlow : offset < 32
  · interval_cases offset <;> rfl
  · rw [State.readOffset_plain s (by omega), State.byteAt_reserved s (by omega), decodeRead,
      if_pos (not_lt.mp hlow)]
    split_ifs <;> rfl

theorem exec_decodeWrite (offset : Nat) (v : Byte) (s : State) :
    exec (decodeWrite offset v) s = .next (s.writeOffset offset v) := by
  by_cases hlow : offset < 32
  · interval_cases offset <;> rfl
  · rw [State.writeOffset_reserved s (by omega), decodeWrite, if_pos (not_lt.mp hlow)]
    split_ifs <;> rfl

/-! A write read back. -/

theorem State.byteAt_writeOffset_storage (s : State) {offset : Nat}
    (h : offset = 0 ∨ (8 ≤ offset ∧ offset ≤ 15)) (v : Byte) : (s.writeOffset offset v).byteAt offset = v := by
  rcases h with rfl | h
  · rfl
  · rw [State.writeOffset_abr s h, State.byteAt_abr _ h]
    simp

/-- "0 <= count <= 24" (spec/41_register_read.md R85 corner case d). -/
theorem State.byteAt_acknowledge_le (s : State) {offset : Nat} (h : 19 ≤ offset ∧ offset ≤ 25) :
    (s.byteAt offset).toNat ≤ 24 := by
  have hcount := ackLoop_count_le ackTestsEnable s.icr (lineOfOffset offset) s.isr
  rw [State.byteAt_acknowledge s h, countByte_toNat hcount]
  exact hcount

/-- Settles O31: storage reads back the byte, an acknowledge its count, and any other offset sees the ISR
alone, which no write changes. -/
theorem onlyStorageOffsetsReadBack : Obligations.OnlyStorageOffsetsReadBack := by
  intro offset s
  refine ⟨decodeRead offset, s.byteAt offset, rfl, fun v => ?_⟩
  refine ⟨decodeWrite offset v, _, _, (s.writeOffset offset v).byteAt offset, rfl,
    exec_decodeWrite offset v s, exec_decodeRead offset _, ?_, ?_⟩
  · rw [State.readOffset_readData, State.writeOffset_readData]
  · split_ifs with hstorage hack
    · exact State.byteAt_writeOffset_storage s hstorage v
    · exact State.byteAt_acknowledge_le _ hack
    · exact State.byteAt_congr (State.writeOffset_isr s v) hstorage hack

/-- Settles O30: handing over a byte changes no register, so the second read returns the same byte. -/
theorem plainReadsAreRepeatable : Obligations.PlainReadsAreRepeatable := by
  intro offset hplain
  refine ⟨decodeRead offset, rfl, fun s => ?_⟩
  have hread (t : State) : exec (decodeRead offset) t = .next (t.deliver (t.byteAt offset)) := by
    rw [exec_decodeRead, State.readOffset_plain t hplain]
  have hsame : (s.deliver (s.byteAt offset)).byteAt offset = s.byteAt offset := rfl
  refine ⟨_, _, s.byteAt offset, hread s, hread _, rfl, ?_⟩
  rw [hsame, State.deliver, State.deliver, List.append_assoc]
  rfl

/-- Settles O29: an offset of 32 or more is reserved on both sides. -/
theorem outOfRangeOffsetsAreAbsorbed : Obligations.OutOfRangeOffsetsAreAbsorbed := by
  intro offset v hout
  refine ⟨decodeRead offset, decodeWrite offset v, rfl, rfl, fun s => ⟨?_, ?_⟩⟩
  · rw [exec_decodeRead, State.readOffset_plain s (by omega), State.byteAt_reserved s (by omega), State.deliver]
  · rw [exec_decodeWrite, State.writeOffset_reserved s (by omega)]

/-- Settles O2: the step's equation in each of its three cases. -/
theorem stepPerformsTheNextRequest : Obligations.StepPerformsTheNextRequest :=
  ⟨fun _ _ _ _ => step_performs, fun _ _ _ _ => step_refuses, fun _ => step_idle⟩

end Sys2Proof.Machine

/-! The CPU's bus accesses (spec/20_memory.md R32). -/

namespace Sys2Proof

theorem Request.ofBusRead_base_add (offset : Nat) :
    Request.ofBusRead (Config.scuBase + offset) = some (.read offset) := by
  rw [Request.ofBusRead, if_pos (Nat.le_add_right ..), Nat.add_sub_cancel_left]

theorem Request.ofBusWrite_base_add (offset : Nat) (v : Byte) :
    Request.ofBusWrite (Config.scuBase + offset) v = some (.write offset v) := by
  rw [Request.ofBusWrite, if_pos (Nat.le_add_right ..), Nat.add_sub_cancel_left]

theorem Request.ofBusRead_eq_none_iff {address : Nat} :
    Request.ofBusRead address = none ↔ address < Config.scuBase := by
  simp [Request.ofBusRead]

theorem Request.ofBusWrite_eq_none_iff {address : Nat} {v : Byte} :
    Request.ofBusWrite address v = none ↔ address < Config.scuBase := by
  simp [Request.ofBusWrite]

/-- Settles O10: the base is subtracted again, and only an address below it is dropped. -/
theorem busAccessesReachTheirOffset : Obligations.BusAccessesReachTheirOffset :=
  ⟨fun offset v => ⟨Request.ofBusRead_base_add offset, Request.ofBusWrite_base_add offset v⟩,
    fun _ _ => ⟨Request.ofBusRead_eq_none_iff, Request.ofBusWrite_eq_none_iff⟩⟩

end Sys2Proof
end

section
/-! Requests and operations (spec/30_encoding.md R47, R50, R51): the decode of an offset or a source index and
the request of an operation undo each other. -/

namespace Sys2Proof

/-! The offsets of the rows that cover more than one. -/

theorem decodeRead_abr (a : Fin 8) : decodeRead (8 + a.val) = .rdAbr a := by
  fin_cases a <;> rfl

theorem decodeRead_26_27 {offset : Nat} (h : 26 ≤ offset ∧ offset ≤ 27) : decodeRead offset = .rdRsv26_27 offset := by
  obtain ⟨hlo, hhi⟩ := h
  interval_cases offset <;> rfl

theorem decodeRead_28_31 {offset : Nat} (h : 28 ≤ offset ∧ offset ≤ 31) : decodeRead offset = .rdRsv28_31 offset := by
  obtain ⟨hlo, hhi⟩ := h
  interval_cases offset <;> rfl

theorem decodeRead_32_63 {offset : Nat} (h : 32 ≤ offset ∧ offset ≤ 63) : decodeRead offset = .rdOor32_63 offset := by
  rw [decodeRead, if_pos h.1, if_pos (by omega)]

theorem decodeRead_64_127 {offset : Nat} (h : 64 ≤ offset ∧ offset ≤ 127) :
    decodeRead offset = .rdOor64_127 offset := by
  rw [decodeRead, if_pos (by omega), if_neg (by omega), if_pos (by omega)]

theorem decodeRead_128_up {offset : Nat} (h : 128 ≤ offset) : decodeRead offset = .rdOor128_255 offset := by
  rw [decodeRead, if_pos (by omega), if_neg (by omega), if_neg (by omega)]

theorem decodeWrite_abr (a : Fin 8) (v : Byte) : decodeWrite (8 + a.val) v = .wrAbr a v := by
  fin_cases a <;> rfl

theorem decodeWrite_icr_low {k : Fin 12} (h : k.val ≤ 7) (v : Byte) :
    decodeWrite (16 + k.val) v = .wrIcrb0_7 k v := by
  simp (disch := omega) [decodeWrite, dif_pos, dif_neg, if_neg]

theorem decodeWrite_icr_high {k : Fin 12} (h : 8 ≤ k.val) (v : Byte) :
    decodeWrite (16 + k.val) v = .wrIcrb8_11 k v := by
  simp (disch := omega) [decodeWrite, dif_pos, dif_neg, if_neg]

theorem decodeWrite_28_31 {offset : Nat} (h : 28 ≤ offset ∧ offset ≤ 31) (v : Byte) :
    decodeWrite offset v = .wrRsv28_31 offset v := by
  obtain ⟨hlo, hhi⟩ := h
  interval_cases offset <;> rfl

theorem decodeWrite_32_63 {offset : Nat} (h : 32 ≤ offset ∧ offset ≤ 63) (v : Byte) :
    decodeWrite offset v = .wrOor32_63 offset v := by
  rw [decodeWrite, if_pos h.1, if_pos (by omega)]

theorem decodeWrite_64_127 {offset : Nat} (h : 64 ≤ offset ∧ offset ≤ 127) (v : Byte) :
    decodeWrite offset v = .wrOor64_127 offset v := by
  rw [decodeWrite, if_pos (by omega), if_neg (by omega), if_pos (by omega)]

theorem decodeWrite_128_up {offset : Nat} (h : 128 ≤ offset) (v : Byte) :
    decodeWrite offset v = .wrOor128_255 offset v := by
  rw [decodeWrite, if_pos (by omega), if_neg (by omega), if_neg (by omega)]

/-! What the decode gives is well-formed and keeps the offset: below 32 one offset at a time, from 32 up by the
three rows that cover every larger offset. -/

/-- The read decode gives a well-formed operation, whose request is the read of the same offset. -/
theorem decodeRead_spec (offset : Nat) :
    (decodeRead offset).wellFormed = true ∧ requestOf (decodeRead offset) = .read offset := by
  by_cases hlow : offset < 32
  · interval_cases offset <;> exact ⟨rfl, rfl⟩
  · rw [decodeRead, if_pos (not_lt.mp hlow)]
    split_ifs <;> exact ⟨by simp [Instr.wellFormed]; omega, rfl⟩

theorem decodeWrite_spec (offset : Nat) (v : Byte) :
    (decodeWrite offset v).wellFormed = true ∧ requestOf (decodeWrite offset v) = .write offset v := by
  by_cases hlow : offset < 32
  · interval_cases offset <;> exact ⟨rfl, rfl⟩
  · rw [decodeWrite, if_pos (not_lt.mp hlow)]
    split_ifs <;> exact ⟨by simp [Instr.wellFormed]; omega, rfl⟩

/-- A notification that decodes has a well-formed operation, whose request is the same notification. -/
theorem decodeSource_spec {index : Nat} {l : Level} {i : Instr} (h : decodeSource index l = .ok i) :
    i.wellFormed = true ∧ requestOf i = .source index l := by
  unfold decodeSource at h
  split_ifs at h <;> cases h <;> exact ⟨by simp [Instr.wellFormed]; omega, rfl⟩

theorem decodeSource_ok_iff {index : Nat} {l : Level} : (∃ i, decodeSource index l = .ok i) ↔ index < 24 := by
  unfold decodeSource
  split_ifs <;> simp [*]

theorem decodeSource_low {x : SourceIndex} (h : x.val ≤ 15) (l : Level) :
    decodeSource x.val l = .ok (.src0_15 x l) := by
  rw [decodeSource, dif_pos x.isLt, if_pos (by omega)]

theorem decodeSource_high {x : SourceIndex} (h : 16 ≤ x.val) (l : Level) :
    decodeSource x.val l = .ok (.src16_23 x l) := by
  rw [decodeSource, dif_pos x.isLt, if_neg (by omega)]

/-- The request of a well-formed operation decodes to the operation. -/
theorem decodeRequest_requestOf {i : Instr} (hw : i.wellFormed = true) : decodeRequest (requestOf i) = .ok i := by
  cases i <;> simp only [Instr.wellFormed, Bool.and_eq_true, decide_eq_true_eq] at hw
  case rdAbr a => exact congrArg Except.ok (decodeRead_abr a)
  case wrAbr a v => exact congrArg Except.ok (decodeWrite_abr a v)
  case wrIcrb0_7 k v => exact congrArg Except.ok (decodeWrite_icr_low hw v)
  case wrIcrb8_11 k v => exact congrArg Except.ok (decodeWrite_icr_high hw v)
  case src0_15 x l => exact decodeSource_low hw l
  case src16_23 x l => exact decodeSource_high hw l
  case rdRsv26_27 offset => exact congrArg Except.ok (decodeRead_26_27 hw)
  case rdRsv28_31 offset => exact congrArg Except.ok (decodeRead_28_31 hw)
  case rdOor32_63 offset => exact congrArg Except.ok (decodeRead_32_63 hw)
  case rdOor64_127 offset => exact congrArg Except.ok (decodeRead_64_127 hw)
  case rdOor128_255 offset => exact congrArg Except.ok (decodeRead_128_up hw)
  case wrRsv28_31 offset v => exact congrArg Except.ok (decodeWrite_28_31 hw v)
  case wrOor32_63 offset v => exact congrArg Except.ok (decodeWrite_32_63 hw v)
  case wrOor64_127 offset v => exact congrArg Except.ok (decodeWrite_64_127 hw v)
  case wrOor128_255 offset v => exact congrArg Except.ok (decodeWrite_128_up hw v)
  all_goals rfl

/-- A request that is no word and decodes has a well-formed operation, whose request it is. -/
theorem requestOf_of_decodeRequest {r : Request} {i : Instr} (hr : ∀ w, r ≠ .word w)
    (h : decodeRequest r = .ok i) : i.wellFormed = true ∧ requestOf i = r := by
  cases r with
  | read offset => cases h; exact decodeRead_spec offset
  | write offset v => cases h; exact decodeWrite_spec offset v
  | source index l => exact decodeSource_spec h
  | reset => cases h; exact ⟨rfl, rfl⟩
  | wideAccess offset => cases h
  | word w => exact absurd rfl (hr w)

/-- Settles O6: the offset decode of each side and the request of an operation are inverse to each other. -/
theorem requestsAndOperationsCorrespond : Obligations.RequestsAndOperationsCorrespond :=
  ⟨fun _ => decodeRequest_requestOf, fun _ _ => requestOf_of_decodeRequest⟩

end Sys2Proof
end

section
/-! Stimulus words and operations (spec/30_encoding.md R48, R49): a word and an operation correspond through the
request both stand for. -/

namespace Sys2Proof

/-! The decode of a word, one equation per kind (spec/30_encoding.md R49). -/

theorem wordKind_cases (w : StimWord) : wordKind w = 0#2 ∨ wordKind w = 1#2 ∨ wordKind w = 2#2 ∨ wordKind w = 3#2 := by
  generalize wordKind w = k
  revert k
  decide

section
variable {w : StimWord}

theorem decodeWord_read (h : wordKind w = 0#2) : decodeWord w =
    if wordD w = 0#8 then .ok (decodeRead (wordA w).toNat) else .error .readDataNotZero :=
  if_pos h

theorem decodeWord_write (h : wordKind w = 1#2) :
    decodeWord w = .ok (decodeWrite (wordA w).toNat (wordD w)) := by
  simp [decodeWord, h]

theorem decodeWord_source (h : wordKind w = 2#2) : decodeWord w =
    if 24 ≤ (wordA w).toNat then .error .sourceIndexOutOfRange
    else if (wordD w).extractLsb' 1 7 = 0#7 then
      decodeSource (wordA w).toNat (Level.ofBit ((wordD w).getLsbD 0))
    else .error .sourceDataNotZero := by
  simp [decodeWord, h]

theorem decodeWord_reset (h : wordKind w = 3#2) : decodeWord w =
    if wordA w = 0#8 ∧ wordD w = 0#8 then .ok .rst else .error .resetFieldNotZero := by
  simp [decodeWord, h]

end

/-! The word of a request: the half of the encoder that does not know the rows. -/

/-- The stimulus word of a request, for the requests that have one (spec/30_encoding.md R48). -/
def Request.stimWord? : Request → Option StimWord
  | .read offset => if offset < 256 then some (readWord offset) else none
  | .write offset value => if offset < 256 then some (writeWord offset value) else none
  | .source index level => if h : index < 24 then some (sourceWord ⟨index, h⟩ level) else none
  | .reset => some (assembleWord 0b11#2 0 0#8)
  | .wideAccess _ => none
  | .word n => if n < 2 ^ 18 then some (BitVec.ofNat 18 n) else none

/-- The word of an operation is the word of its request. -/
theorem stimWord?_requestOf {i : Instr} (hw : i.wellFormed = true) :
    (requestOf i).stimWord? = if i.fitsWord then some (encode i) else none := by
  cases i
  case rdOor128_255 offset => simp [requestOf, Request.stimWord?, Instr.fitsWord, encode, Nat.lt_succ_iff]
  case wrOor128_255 offset v => simp [requestOf, Request.stimWord?, Instr.fitsWord, encode, Nat.lt_succ_iff]
  case src0_15 x l => exact dif_pos x.isLt
  case src16_23 x l => exact dif_pos x.isLt
  case rst => rfl
  all_goals
    simp only [Instr.wellFormed, Bool.and_eq_true, decide_eq_true_eq] at hw
    rw [requestOf, Request.stimWord?, if_pos (by omega)]
    rfl

/-! The `d` field of a notification's word: bits 7:1 zero, bit 0 the level (spec/30_encoding.md R48). -/

theorem levelByte_high (l : Level) : (0#7 ++ BitVec.ofBool l.bit : Byte).extractLsb' 1 7 = 0#7 := by
  cases l <;> rfl

theorem levelByte_level (l : Level) : Level.ofBit ((0#7 ++ BitVec.ofBool l.bit : Byte).getLsbD 0) = l := by
  cases l <;> rfl

theorem levelByte_of_high_zero {d : Byte} (h : d.extractLsb' 1 7 = 0#7) :
    (0#7 ++ BitVec.ofBool (Level.ofBit (d.getLsbD 0)).bit : Byte) = d := by
  revert d
  decide

/-- A word decodes as the request it stands for. -/
theorem decodeWord_of_stimWord? {r : Request} {w : StimWord} (h : r.stimWord? = some w) :
    decodeWord w = decodeRequest r := by
  cases r with
  | read offset =>
    obtain ⟨hlt, rfl⟩ : offset < 256 ∧ readWord offset = w := by simpa [Request.stimWord?] using h
    rw [readWord, decodeWord_read (wordKind_assembleWord ..), wordD_assembleWord, if_pos rfl, wordA_assembleWord,
      BitVec.toNat_ofNat, Nat.mod_eq_of_lt hlt, decodeRequest]
  | write offset v =>
    obtain ⟨hlt, rfl⟩ : offset < 256 ∧ writeWord offset v = w := by simpa [Request.stimWord?] using h
    rw [writeWord, decodeWord_write (wordKind_assembleWord ..), wordD_assembleWord, wordA_assembleWord,
      BitVec.toNat_ofNat, Nat.mod_eq_of_lt hlt, decodeRequest]
  | source index l =>
    obtain ⟨hlt, rfl⟩ : ∃ hlt : index < 24, sourceWord ⟨index, hlt⟩ l = w := by simpa [Request.stimWord?] using h
    rw [sourceWord, decodeWord_source (wordKind_assembleWord ..), wordD_assembleWord, wordA_assembleWord,
      BitVec.toNat_ofNat, Nat.mod_eq_of_lt (by omega), if_neg (by omega), if_pos (levelByte_high l),
      levelByte_level, decodeRequest]
  | reset => cases h; rfl
  | wideAccess offset => cases h
  | word n =>
    obtain ⟨hlt, rfl⟩ : n < 2 ^ 18 ∧ BitVec.ofNat 18 n = w := by simpa [Request.stimWord?] using h
    exact (if_pos hlt).symm

/-- Every word that decodes is the word of a request. -/
theorem exists_stimWord? {w : StimWord} {i : Instr} (h : decodeWord w = .ok i) :
    ∃ r : Request, (∀ n, r ≠ .word n) ∧ r.stimWord? = some w := by
  have hw := assembleWord_fields w
  have ha := (wordA w).isLt
  rcases wordKind_cases w with hk | hk | hk | hk <;> rw [hk] at hw
  · rw [decodeWord_read hk] at h
    split_ifs at h with hd
    rw [hd] at hw
    exact ⟨.read (wordA w).toNat, by simp, (if_pos ha).trans (congrArg some hw)⟩
  · exact ⟨.write (wordA w).toNat (wordD w), by simp, (if_pos ha).trans (congrArg some hw)⟩
  · rw [decodeWord_source hk] at h
    split_ifs at h with h24 hd
    rw [← levelByte_of_high_zero hd] at hw
    exact ⟨.source (wordA w).toNat (.ofBit ((wordD w).getLsbD 0)), by simp,
      (dif_pos (not_le.mp h24)).trans (congrArg some hw)⟩
  · rw [decodeWord_reset hk] at h
    split_ifs at h with hz
    rw [hz.1, hz.2] at hw
    exact ⟨.reset, by simp, congrArg some hw⟩

/-- Settles O4: the word is the word of the operation's request, which decodes to the operation. -/
theorem decodeOfEncodeIsTheOperation : Obligations.DecodeOfEncodeIsTheOperation := by
  intro i hw hfit
  have hword : (requestOf i).stimWord? = some (encode i) := (stimWord?_requestOf hw).trans (if_pos hfit)
  exact (decodeWord_of_stimWord? hword).trans (decodeRequest_requestOf hw)

/-- Settles O5: the word is a request's, the operation decoded is that request's, and so is its word. -/
theorem encodeOfDecodeIsTheWord : Obligations.EncodeOfDecodeIsTheWord := by
  intro w i h
  obtain ⟨r, hr, hword⟩ := exists_stimWord? h
  obtain ⟨hw, rfl⟩ := requestOf_of_decodeRequest hr ((decodeWord_of_stimWord? hword).symm.trans h)
  rw [stimWord?_requestOf hw] at hword
  split_ifs at hword with hfit
  exact ⟨Option.some.inj hword, hw, hfit⟩

end Sys2Proof
end

section
/-! Words and the opcode table (spec/30_encoding.md R48, R49, R56): which inputs are refused, and which row of
the table a word matches. -/

namespace Sys2Proof

/-! The refused words, by their fields. -/

theorem wordD_high (w : StimWord) : (wordD w).extractLsb' 1 7 = w.extractLsb' 1 7 :=
  BitVec.extractLsb'_extractLsb'_of_le (by omega)

/-- The reserved words: a read with data, a notification whose index or data is out of range, a reset with a
field that is not zero. -/
theorem decodeWord_refuses_iff (w : StimWord) : (∃ why, decodeWord w = .error why) ↔
    (wordKind w = 0#2 ∧ wordD w ≠ 0#8) ∨
    (wordKind w = 2#2 ∧ (24 ≤ (wordA w).toNat ∨ w.extractLsb' 1 7 ≠ 0#7)) ∨
    (wordKind w = 3#2 ∧ (wordA w ≠ 0#8 ∨ wordD w ≠ 0#8)) := by
  rcases wordKind_cases w with hk | hk | hk | hk
  · rw [decodeWord_read hk]
    split_ifs with hd <;> simp [hk, hd]
  · rw [decodeWord_write hk]
    simp [hk]
  · rw [decodeWord_source hk, wordD_high]
    split_ifs with ha hd
    · simp [hk, ha]
    · obtain ⟨i, hi⟩ := (decodeSource_ok_iff (l := .ofBit ((wordD w).getLsbD 0))).mpr (not_le.mp ha)
      rw [hi]
      simp [hk, ha, hd]
    · simp [hk, hd]
  · rw [decodeWord_reset hk]
    split_ifs with hz
    · simp [hk, hz]
    · simpa [hk] using not_and_or.mp hz

theorem decodeTableWord_eq_some_iff {nbits w : Nat} {i : Instr} :
    decodeTableWord nbits w = some i ↔ decodeRequest (.word (w % 2 ^ nbits)) = .ok i := by
  rw [decodeTableWord, decodeRequest]
  cases decodeNumber (w % 2 ^ nbits) <;> simp

/-- Settles O9: the refused words by their fields, and every other input by the decode of its kind. -/
theorem exactlyIllFormedInputsAreRefused : Obligations.ExactlyIllFormedInputsAreRefused :=
  ⟨decodeWord_refuses_iff, fun _ _ => ⟨_, _, rfl, rfl⟩, fun _ _ => decodeSource_ok_iff, ⟨_, rfl⟩, fun _ => rfl,
    fun _ hn => if_pos hn, fun _ hn => if_neg (not_lt.mpr hn), fun _ _ _ => decodeTableWord_eq_some_iff⟩

/-! The match of a row, field by field. -/

/-- The word falls in the row: it has the row's pattern where the row's mask looks (spec/30_encoding.md R49). -/
def TableRow.Matches (r : TableRow) (w : StimWord) : Prop := w &&& r.mask = r.pattern

theorem TableRow.Matches.fields {r : TableRow} {w : StimWord} (h : r.Matches w) :
    wordKind w &&& wordKind r.mask = wordKind r.pattern ∧ wordA w &&& wordA r.mask = wordA r.pattern ∧
      wordD w &&& wordD r.mask = wordD r.pattern := by
  rw [TableRow.Matches] at h
  rw [← h]
  exact ⟨BitVec.extractLsb'_and.symm, BitVec.extractLsb'_and.symm, BitVec.extractLsb'_and.symm⟩

theorem opcodeTable_disjoint : ∀ r ∈ opcodeTable, ∀ r' ∈ opcodeTable,
    r.pattern &&& r'.mask = r'.pattern &&& r.mask → r = r' := by
  decide

/-- Settles O7: two rows that a word matches agree wherever both masks look, and no two rows of the table do. -/
theorem opcodeRowsAreDisjoint : Obligations.OpcodeRowsAreDisjoint := by
  intro w r r' hr hr' hm hm'
  have hcommon : r.pattern &&& r'.mask = r'.pattern &&& r.mask := by
    rw [← hm, ← hm', BitVec.and_assoc, BitVec.and_comm r.mask, ← BitVec.and_assoc]
  exact opcodeTable_disjoint r hr r' hr' hcommon

/-! What the rows of the table ask of a word: its kind, and every bit that the kind wants zero. -/

theorem opcodeTable_kind : ∀ r ∈ opcodeTable, wordKind r.mask = BitVec.allOnes 2 := by
  decide

theorem opcodeTable_read : ∀ r ∈ opcodeTable, wordKind r.pattern = 0#2 →
    wordD r.mask = BitVec.allOnes 8 ∧ wordD r.pattern = 0#8 := by
  decide

theorem opcodeTable_source : ∀ r ∈ opcodeTable, wordKind r.pattern = 2#2 →
    (∀ a : Byte, a &&& wordA r.mask = wordA r.pattern → a.toNat < 24) ∧
      wordD r.mask = 0xFE#8 ∧ wordD r.pattern = 0#8 := by
  decide

theorem opcodeTable_reset : ∀ r ∈ opcodeTable, wordKind r.pattern = 3#2 →
    r.mask = BitVec.allOnes 18 ∧ r.pattern = 0x30000#18 := by
  decide

theorem high_zero_of_and_mask {d : Byte} (h : d &&& 0xFE#8 = 0#8) : d.extractLsb' 1 7 = 0#7 := by
  revert d
  decide

/-- A word that falls in a row of the table is not refused. -/
theorem TableRow.Matches.not_refused {r : TableRow} {w : StimWord} (hr : r ∈ opcodeTable) (hm : r.Matches w) :
    ¬ ∃ why, decodeWord w = .error why := by
  obtain ⟨hk, ha, hd⟩ := hm.fields
  rw [opcodeTable_kind r hr, BitVec.and_allOnes] at hk
  rw [decodeWord_refuses_iff, hk]
  rintro (⟨hread, hbad⟩ | ⟨hsource, hbad⟩ | ⟨hreset, hbad⟩)
  · obtain ⟨hmask, hzero⟩ := opcodeTable_read r hr hread
    rw [hmask, hzero, BitVec.and_allOnes] at hd
    exact hbad hd
  · obtain ⟨hindex, hmask, hzero⟩ := opcodeTable_source r hr hsource
    rw [hmask, hzero] at hd
    rw [← wordD_high, high_zero_of_and_mask hd] at hbad
    exact hbad.elim (not_le.mpr (hindex _ ha)) (absurd rfl)
  · obtain ⟨hmask, hpattern⟩ := opcodeTable_reset r hr hreset
    rw [TableRow.Matches, hmask, hpattern, BitVec.and_allOnes] at hm
    subst hm
    exact absurd hbad (by decide)

theorem Instr.row_mem_opcodeTable (i : Instr) : i.row ∈ opcodeTable := by
  cases i <;> exact List.mem_of_elem_eq_true rfl

/-- The word of a well-formed operation falls in the operation's row. -/
theorem Instr.row_matches_encode : ∀ i : Instr, Laws.RowMatch.Statement i
  | .rdCcr => Laws.RowMatch.rdCcr
  | .rdDcr => Laws.RowMatch.rdDcr
  | .rdFcr => Laws.RowMatch.rdFcr
  | .rdPcr => Laws.RowMatch.rdPcr
  | .rdIder0 => Laws.RowMatch.rdIder0
  | .rdIder1 => Laws.RowMatch.rdIder1
  | .rdIsar => Laws.RowMatch.rdIsar
  | .rdOff7 => Laws.RowMatch.rdOff7
  | .rdAbr a => Laws.RowMatch.rdAbr a
  | .rdIsrHi => Laws.RowMatch.rdIsrHi
  | .rdIsrMid => Laws.RowMatch.rdIsrMid
  | .rdIsrLo => Laws.RowMatch.rdIsrLo
  | .rdIack1 => Laws.RowMatch.rdIack1
  | .rdIack2 => Laws.RowMatch.rdIack2
  | .rdIack3 => Laws.RowMatch.rdIack3
  | .rdIack4 => Laws.RowMatch.rdIack4
  | .rdIack5 => Laws.RowMatch.rdIack5
  | .rdIack6 => Laws.RowMatch.rdIack6
  | .rdIack7 => Laws.RowMatch.rdIack7
  | .rdRsv26_27 offset => Laws.RowMatch.rdRsv26_27 offset
  | .rdRsv28_31 offset => Laws.RowMatch.rdRsv28_31 offset
  | .rdOor32_63 offset => Laws.RowMatch.rdOor32_63 offset
  | .rdOor64_127 offset => Laws.RowMatch.rdOor64_127 offset
  | .rdOor128_255 offset => Laws.RowMatch.rdOor128_255 offset
  | .wrCcr v => Laws.RowMatch.wrCcr v
  | .wrDcr v => Laws.RowMatch.wrDcr v
  | .wrFcr v => Laws.RowMatch.wrFcr v
  | .wrPcr v => Laws.RowMatch.wrPcr v
  | .wrIder0 v => Laws.RowMatch.wrIder0 v
  | .wrIder1 v => Laws.RowMatch.wrIder1 v
  | .wrIsar v => Laws.RowMatch.wrIsar v
  | .wrOff7 v => Laws.RowMatch.wrOff7 v
  | .wrAbr a v => Laws.RowMatch.wrAbr a v
  | .wrIcrb0_7 k v => Laws.RowMatch.wrIcrb0_7 k v
  | .wrIcrb8_11 k v => Laws.RowMatch.wrIcrb8_11 k v
  | .wrRsv28_31 offset v => Laws.RowMatch.wrRsv28_31 offset v
  | .wrOor32_63 offset v => Laws.RowMatch.wrOor32_63 offset v
  | .wrOor64_127 offset v => Laws.RowMatch.wrOor64_127 offset v
  | .wrOor128_255 offset v => Laws.RowMatch.wrOor128_255 offset v
  | .src0_15 x l => Laws.RowMatch.src0_15 x l
  | .src16_23 x l => Laws.RowMatch.src16_23 x l
  | .rst => Laws.RowMatch.rst

/-- Settles O8: a word that decodes is the word of its operation, and a refused word falls in no row. -/
theorem everyWordIsItsRowOrReserved : Obligations.EveryWordIsItsRowOrReserved := by
  intro w
  cases hd : decodeWord w with
  | ok i =>
    obtain ⟨rfl, hw, hfit⟩ := encodeOfDecodeIsTheWord w i hd
    exact .inl ⟨i, rfl, i.row_mem_opcodeTable, i.row_matches_encode hw hfit⟩
  | error why => exact .inr ⟨why, rfl, fun r hr hm => TableRow.Matches.not_refused hr hm ⟨why, hd⟩⟩

/-- Settles O3: the placed word decodes, and placing it added nothing but that request. -/
theorem fetchedWordIsPerformed : Obligations.FetchedWordIsPerformed := by
  intro s nbits w i h
  exact Machine.step_performs rfl (decodeTableWord_eq_some_iff.mp h)

/-- Settles O1: the decoder evaluated on each of the words. -/
theorem sampleWordsDecode : Obligations.SampleWordsDecode := by
  unfold Obligations.SampleWordsDecode
  decide

end Sys2Proof
end

section
/-! The pseudo-operations (spec/30_encoding.md R58): the requests they stand for, and what these do. -/

namespace Sys2Proof.Machine

/-! `RDISR`: three reads in a row. -/

/-- A step on a waiting read. -/
theorem step_read {s : State} {offset : Nat} {rest : List Request} (hp : s.pending = .read offset :: rest) :
    step s = .next ((s.setPending rest).readOffset offset) :=
  (step_performs hp rfl).trans (exec_decodeRead offset _)

/-- The three byte views, as numbers, make up the ISR (spec/20_memory.md R34). -/
theorem isr_bytes_toNat (isr : IsrWord) :
    (isrHigh isr).toNat * 0x10000 + (isrMiddle isr).toNat * 0x100 + (isrLow isr).toNat = isr.toNat := by
  simp only [isrHigh, isrMiddle, isrLow, BitVec.extractLsb'_toNat, Nat.shiftRight_eq_div_pow]
  omega

/-- Settles O57: three steps hand over the three byte views, none of which changes the ISR. -/
theorem rdIsrSequenceReturnsIsr : Obligations.RdIsrSequenceReturnsIsr := by
  intro s rest hp
  refine ⟨_, isrHigh s.isr, isrMiddle s.isr, isrLow s.isr, ?_, rfl, isr_bytes_toNat s.isr⟩
  rw [run_next (step_read hp), run_next (step_read rfl), run_next (step_read rfl)]
  have hbytes : s.readData ++ [isrHigh s.isr] ++ [isrMiddle s.isr] ++ [isrLow s.isr] =
      s.readData ++ [isrHigh s.isr, isrMiddle s.isr, isrLow s.isr] := by simp
  exact congrArg (fun bs => Host.Outcome.next { s with pending := rest, readData := bs }) hbytes

/-! `ICRSET`: the write of the ICR byte that holds the source's entry. -/

theorem exec_decodeWrite_icr (k : Fin 12) (v : Byte) (s : State) :
    exec (decodeWrite (16 + k.val) v) s = .next (s.writeIcrByte k v) := by
  rw [exec_decodeWrite, State.writeOffset, if_neg (by omega), dif_neg (by omega), dif_pos (by omega)]
  simp

/-- The byte of two entries gives the even source the first, the odd one the second. -/
theorem State.writeIcrByte_append_icr (s : State) (k : Fin 12) (a b : IcrEntry) (y : SourceIndex) :
    (s.writeIcrByte k (a ++ b)).icr[y] =
      if y.val = 2 * k.val then a else if y.val = 2 * k.val + 1 then b else s.icr[y] := by
  rw [State.writeIcrByte_icr, highNibble_append, lowNibble_append]

theorem pseudoIcrSet_even (k : Fin 12) (n m : IcrEntry) :
    pseudoIcrSet (evenSource k) n m = .write (16 + k.val) (n ++ m) := by
  simp [pseudoIcrSet]

theorem pseudoIcrSet_odd (k : Fin 12) (n m : IcrEntry) :
    pseudoIcrSet (oddSource k) n m = .write (16 + k.val) (m ++ n) := by
  simp [pseudoIcrSet, Nat.add_mod]

/-- Settles O58: the byte written holds the two entries in the order of the source's parity. -/
theorem icrSetWritesItsEntryAndNeighbour : Obligations.IcrSetWritesItsEntryAndNeighbour := by
  intro x n m s
  obtain ⟨k, rfl | rfl⟩ := source_even_or_odd x
  · rw [pseudoIcrSet_even]
    refine ⟨_, _, rfl, exec_decodeWrite_icr k _ s, fun y => ?_, rfl, rfl, rfl, rfl, rfl, rfl⟩
    rw [State.writeIcrByte_append_icr]
    grind [Fin.ext_iff, evenSource_val]
  · rw [pseudoIcrSet_odd]
    refine ⟨_, _, rfl, exec_decodeWrite_icr k _ s, fun y => ?_, rfl, rfl, rfl, rfl, rfl, rfl⟩
    rw [State.writeIcrByte_append_icr]
    grind [Fin.ext_iff, oddSource_val]

/-! `CLKSEL`, `CLKDEF` and `IACK`. -/

theorem clkOf_clkSel (j : BitVec 3) : clkOf (BitVec.ofNat 8 (j.toNat * 16)) = Config.clockTable j := by
  have hdef : ∀ j : BitVec 3, (BitVec.ofNat 8 (j.toNat * 16)).getLsbD 7 = false := by decide
  have hsel : ∀ j : BitVec 3, (BitVec.ofNat 8 (j.toNat * 16)).extractLsb' 4 3 = j := by decide
  rw [clkOf_table (hdef j), hsel]

theorem clkOf_clkDef : clkOf 0x80#8 = Config.defaultClock :=
  clkOf_default (by decide)

theorem ackLine_decodeRead (n : LineNum) : n ≠ 0#3 → ackLine (decodeRead (18 + n.toNat)) = some n := by
  revert n
  decide

/-- The write of CCR switches the clock to the one its byte selects. -/
theorem exec_write_ccr (v : Byte) (s : State) : ∃ i t, decodeRequest (.write 0 v) = .ok i ∧ exec i s = .next t ∧
    t.trace = s.trace ++ [.setClock (clkOf v)] ∧ t.clk = clkOf v :=
  ⟨_, _, rfl, exec_decodeWrite 0 v s, rfl, State.clk_writeCcr s v⟩

/-- Settles O59: the two bytes written to CCR select the entry and the default, and offset `18 + L`
acknowledges line `L`. -/
theorem clockAndAcknowledgePseudoOperations : Obligations.ClockAndAcknowledgePseudoOperations := by
  refine ⟨fun j s => ?_, fun s => ?_, fun n hn => ⟨_, rfl, ackLine_decodeRead n hn⟩⟩
  · rw [← clkOf_clkSel j]
    exact exec_write_ccr _ s
  · rw [← clkOf_clkDef]
    exact exec_write_ccr _ s

end Sys2Proof.Machine
end

section
/-! The register writes (spec/40_register_write.md R59 to R71): the word of a write, what the write of an
offset leaves alone, and the statements row by row. -/

namespace Sys2Proof

/-! The word of a write (spec/30_encoding.md R48). -/

theorem writeWord_toNat {offset : Nat} (h : offset < 256) (v : Byte) :
    (writeWord offset v).toNat = 0x10000 + 0x100 * offset + v.toNat := by
  rw [writeWord, assembleWord_toNat 0b01#2 h v, BitVec.toNat_ofNat]
  omega

/-- The encoder gives back the word of a write that has one, whatever row its offset is in. -/
theorem encode_decodeWrite {offset : Nat} (h : offset < 256) (v : Byte) :
    encode (decodeWrite offset v) = writeWord offset v := by
  obtain ⟨hw, hreq⟩ := decodeWrite_spec offset v
  have hword := stimWord?_requestOf hw
  rw [hreq, Request.stimWord?, if_pos h] at hword
  split_ifs at hword
  exact (Option.some.inj hword).symm

/-- The rows of the offsets from 28 up (spec/40_register_write.md R70, R71). -/
theorem decodeWrite_28_up {offset : Nat} (h : 28 ≤ offset) (v : Byte) :
    (offset ≤ 31 ∧ decodeWrite offset v = .wrRsv28_31 offset v) ∨
      (32 ≤ offset ∧ (decodeWrite offset v = .wrOor32_63 offset v ∨ decodeWrite offset v = .wrOor64_127 offset v ∨
        decodeWrite offset v = .wrOor128_255 offset v)) := by
  by_cases h31 : offset ≤ 31
  · exact .inl ⟨h31, decodeWrite_28_31 ⟨h, h31⟩ v⟩
  refine .inr ⟨not_le.mp h31, ?_⟩
  by_cases h63 : offset ≤ 63
  · exact .inl (decodeWrite_32_63 ⟨not_le.mp h31, h63⟩ v)
  by_cases h127 : offset ≤ 127
  · exact .inr (.inl (decodeWrite_64_127 ⟨not_le.mp h63, h127⟩ v))
  · exact .inr (.inr (decodeWrite_128_up (not_le.mp h127) v))

end Sys2Proof

namespace Sys2Proof.Machine

/-! What the write of an offset leaves alone. -/

section
variable (s : State) {offset : Nat} (v : Byte)

@[simp] theorem State.writeOffset_pending : (s.writeOffset offset v).pending = s.pending := by
  unfold State.writeOffset
  split_ifs <;> rfl

/-- The one event of a write is the `SetClock` of offset 0 (spec/40_register_write.md R60). -/
theorem State.writeOffset_trace :
    (s.writeOffset offset v).trace = s.trace ++ if offset = 0 then [.setClock (clkOf v)] else [] := by
  by_cases h0 : offset = 0
  · rw [State.writeOffset, if_pos h0, if_pos h0, State.writeCcr_trace]
  · rw [State.writeOffset, if_neg h0, if_neg h0, List.append_nil]
    split_ifs <;> rfl

/-- An offset that is neither CCR's, an ABR's nor an ICR byte's stores nothing. -/
theorem State.writeOffset_unchanged (h0 : offset ≠ 0) (hstore : ¬ (8 ≤ offset ∧ offset ≤ 27)) :
    s.writeOffset offset v = s := by
  rw [State.writeOffset, if_neg h0, dif_neg (by omega), dif_neg (by omega)]

theorem State.writeOffset_ccr_other (h : offset ≠ 0) : (s.writeOffset offset v).ccr = s.ccr := by
  rw [State.writeOffset, if_neg h]
  split_ifs <;> rfl

theorem State.writeOffset_abr_outside (h : ¬ (8 ≤ offset ∧ offset ≤ 15)) :
    (s.writeOffset offset v).abr = s.abr := by
  rw [State.writeOffset, dif_neg h]
  split_ifs <;> rfl

theorem State.writeOffset_abr_other {j : Fin 8} (h : offset ≠ 8 + j.val) :
    (s.writeOffset offset v).abr[j] = s.abr[j] := by
  by_cases habr : 8 ≤ offset ∧ offset ≤ 15
  · rw [State.writeOffset_abr s habr]
    exact State.setAbr_abr_other s v fun hj => h (by rw [hj, Nat.add_sub_of_le habr.1])
  · rw [State.writeOffset_abr_outside s v habr]

theorem State.writeOffset_icr_other {x : SourceIndex} (h : offset ≠ 16 + x.val / 2) :
    (s.writeOffset offset v).icr[x] = s.icr[x] := by
  unfold State.writeOffset
  split_ifs with h0 habr hicr
  · rfl
  · rfl
  · rw [State.writeIcrByte_icr, if_neg (by simp only; omega), if_neg (by simp only; omega)]
  · rfl

/-- A write reads nothing of the ISR: replacing the word before it or after it is the same. -/
theorem State.writeOffset_setIsr (w : IsrWord) :
    (s.setIsr w).writeOffset offset v = (s.writeOffset offset v).setIsr w := by
  unfold State.writeOffset
  split_ifs <;> rfl

end

theorem exec_of_icrByteWritten {i : Instr} {k : Fin 12} {v : Byte} (h : icrByteWritten i = some (k, v)) (s : State) :
    exec i s = .next (s.writeIcrByte k v) := by
  cases i <;> cases h <;> rfl

/-! The events of an operation that does not write CCR. -/

/-- A notification emits line events only (spec/42_source_router.md R90). -/
theorem State.notify_trace (s : State) (x : SourceIndex) (l : Level) :
    ∃ es, (s.notify x l).trace = s.trace ++ es ∧ noClockEvent es = true := by
  cases h : icrEnable s.icr[x] with
  | false => exact ⟨[], by rw [State.notify_disabled s h, List.append_nil], rfl⟩
  | true =>
    rw [State.notify_enabled s h]
    exact ⟨_, State.pulseLine_trace _ _ l, by cases l <;> rfl⟩

theorem exec_noClockEvent {i : Instr} {s t : State} (h : exec i s = .next t) (hrst : i ≠ .rst)
    (hccr : ∀ v, i ≠ .wrCcr v) : ∃ es, t.trace = s.trace ++ es ∧ noClockEvent es = true := by
  induction t, h using exec_cases with
  | writeCcr v hi => exact absurd hi (hccr v)
  | resetRegisters hi => exact absurd hi hrst
  | acknowledge n => exact ⟨[.lineClear n], State.acknowledge_trace s n, rfl⟩
  | notify x l => exact State.notify_trace s x l
  | _ => exact ⟨[], by simp, rfl⟩

/-! The statements. -/

/-- Settles O19: the offset's row is one of the four, and the write of a reserved offset changes nothing. -/
theorem reservedAndOutOfRangeWritesDoNothing : Obligations.ReservedAndOutOfRangeWritesDoNothing := by
  intro offset v h
  refine ⟨decodeWrite offset v, rfl, ?_, ?_, fun h255 => ?_, fun s => ?_⟩
  · rcases decodeWrite_28_up h v with ⟨-, hrow⟩ | ⟨-, hrow⟩
    · exact .inl hrow
    · exact .inr hrow
  · rcases decodeWrite_28_up h v with ⟨h31, hrow⟩ | ⟨h32, hrow | hrow | hrow⟩
    · exact iff_of_true hrow h31
    all_goals exact iff_of_false (by simp [hrow]) (by omega)
  · rw [encode_decodeWrite (by omega), writeWord_toNat (by omega)]
  · rw [exec_decodeWrite, State.writeOffset_reserved s h]

/-- Settles O21: both rows write ICR byte `k`, whose two entries are the nibbles of the byte. -/
theorem wrIcrWritesBothEntries : Obligations.WrIcrWritesBothEntries := by
  intro k v i hi
  have hword : encode i = writeWord (16 + k.val) v := by rcases hi with rfl | rfl <;> rfl
  refine ⟨congrArg Except.ok ?_, ?_, fun s => ?_⟩
  · split_ifs with hk
    · exact decodeWrite_icr_low (by omega) v
    · exact decodeWrite_icr_high (by omega) v
  · rw [hword, writeWord_toNat (by omega)]
    omega
  · exact ⟨_, exec_of_icrByteWritten (icrByteWritten_eq_some.mpr hi) s, State.writeIcrByte_icr s k v,
      rfl, rfl, rfl, rfl, rfl, rfl⟩

/-- Settles O22: every clause is what `State.writeOffset` leaves alone. -/
theorem writesOnlyStoreAndSwitchTheClock : Obligations.WritesOnlyStoreAndSwitchTheClock := by
  intro offset v s
  refine ⟨decodeWrite offset v, s.writeOffset offset v, rfl, exec_decodeWrite offset v s,
    State.writeOffset_isr s v, State.writeOffset_readData s v, State.writeOffset_pending s v,
    State.writeOffset_trace s v, State.writeOffset_unchanged s v, State.writeOffset_ccr_other s v,
    State.writeOffset_abr_outside s v, fun j => State.writeOffset_abr_other s v,
    fun x => State.writeOffset_icr_other s v, fun w => ?_⟩
  exact (exec_decodeWrite offset v (s.setIsr w)).trans (congrArg _ (State.writeOffset_setIsr s v w))

/-- Settles O47: the write of CCR emits its `SetClock`, every other operation line events only. -/
theorem onlyCcrWritesSwitchTheClock : Obligations.OnlyCcrWritesSwitchTheClock := by
  intro i s t h hrst
  by_cases hccr : ∃ v, i = .wrCcr v
  · obtain ⟨v, rfl⟩ := hccr
    cases h
    refine ⟨[.setClock (clkOf v)], State.writeCcr_trace s v, fun w hw => ?_, fun hne => absurd rfl (hne v)⟩
    cases hw
    rfl
  · have hne := not_exists.mp hccr
    obtain ⟨es, htrace, hes⟩ := exec_noClockEvent h hrst hne
    exact ⟨es, htrace, fun v hv => absurd hv (hne v), fun _ => hes⟩

/-- Settles O16: the write of CCR is `State.writeCcr`, whose clock `clkOf` selects. -/
theorem wrCcrStoresAndSwitchesClock : Obligations.WrCcrStoresAndSwitchesClock :=
  fun v s => ⟨rfl, writeWord_toNat (by decide) v, s.writeCcr v, rfl, State.writeCcr_ccr s v,
    State.writeCcr_trace s v, rfl, rfl, rfl, rfl, rfl⟩

/-- Settles O17, one placeholder offset at a time. -/
theorem placeholderWritesDoNothing : Obligations.PlaceholderWritesDoNothing := by
  intro p hp v s
  fin_cases hp <;> exact ⟨rfl, writeWord_toNat (by decide) v, rfl⟩

/-- Settles O18: the row drops its byte (decision D5). -/
theorem offsetSevenWriteDoesNothing : Obligations.OffsetSevenWriteDoesNothing :=
  fun v _ => ⟨rfl, writeWord_toNat (by decide) v, rfl⟩

/-- Settles O20: the write of an ABR is `State.setAbr`. -/
theorem wrAbrStoresOneRegister : Obligations.WrAbrStoresOneRegister := by
  intro i v s
  refine ⟨congrArg Except.ok (decodeWrite_abr i v), ?_, s.setAbr i v, rfl, by simp,
    fun j => State.setAbr_abr_other s v, rfl, rfl, rfl, rfl, rfl, rfl⟩
  rw [encode, writeWord_toNat (by omega)]
  omega

/-- Settles O28: no arm of these rows looks at its offset. -/
theorem reservedRowsCompleteForEveryOffset : Obligations.ReservedRowsCompleteForEveryOffset := by
  intro offset v s
  refine ⟨rfl, rfl, rfl, rfl, fun i hi => ?_⟩
  fin_cases hi <;> rfl

/-- Settles O32: the byte read counts the sources on line 1, which are the two of ICR byte 3 after 0x99 and
none after 0x00. -/
theorem acknowledgeCountSeesTheByteWritten : Obligations.AcknowledgeCountSeesTheByteWritten :=
  ⟨_, _, _, _, rfl, rfl, rfl, rfl, (State.acknowledge_readData _ 1#3).trans (by decide),
    (State.acknowledge_readData _ 1#3).trans (by decide)⟩

end Sys2Proof.Machine
end

section
/-! The register reads (spec/41_register_read.md R72 to R88): the word of a read, what the acknowledge of a line
does to each bit and how often, and the statements row by row. -/

namespace Sys2Proof

/-! The word of a read (spec/30_encoding.md R48), and the rows of the offsets with no register. -/

theorem readWord_toNat {offset : Nat} (h : offset < 256) : (readWord offset).toNat = 0x100 * offset := by
  rw [readWord, assembleWord_toNat 0b00#2 h, BitVec.toNat_ofNat, BitVec.toNat_ofNat]
  omega

/-- The encoder gives back the word of a read that has one, whatever row its offset is in. -/
theorem encode_decodeRead {offset : Nat} (h : offset < 256) : encode (decodeRead offset) = readWord offset := by
  obtain ⟨hw, hreq⟩ := decodeRead_spec offset
  have hword := stimWord?_requestOf hw
  rw [hreq, Request.stimWord?, if_pos h] at hword
  split_ifs at hword
  exact (Option.some.inj hword).symm

/-- The rows of the offsets from 26 up (spec/41_register_read.md R86 to R88). -/
theorem decodeRead_26_up {offset : Nat} (h : 26 ≤ offset) :
    decodeRead offset = .rdRsv26_27 offset ∨ decodeRead offset = .rdRsv28_31 offset ∨
      decodeRead offset = .rdOor32_63 offset ∨ decodeRead offset = .rdOor64_127 offset ∨
      decodeRead offset = .rdOor128_255 offset := by
  by_cases h27 : offset ≤ 27
  · exact .inl (decodeRead_26_27 ⟨h, h27⟩)
  refine .inr ?_
  by_cases h31 : offset ≤ 31
  · exact .inl (decodeRead_28_31 ⟨not_le.mp h27, h31⟩)
  refine .inr ?_
  by_cases h63 : offset ≤ 63
  · exact .inl (decodeRead_32_63 ⟨not_le.mp h31, h63⟩)
  refine .inr ?_
  by_cases h127 : offset ≤ 127
  · exact .inl (decodeRead_64_127 ⟨not_le.mp h63, h127⟩)
  · exact .inr (decodeRead_128_up (not_le.mp h127))

end Sys2Proof

namespace Sys2Proof.Machine

/-- An operation that hands over a byte and does nothing else, written out register by register. -/
theorem exec_deliver_frame {i : Instr} {s : State} {b : Byte} (h : exec i s = .next (s.deliver b)) :
    ∃ t, exec i s = .next t ∧ t.readData = s.readData ++ [b] ∧ t.ccr = s.ccr ∧ t.abr = s.abr ∧ t.icr = s.icr ∧
      t.isr = s.isr ∧ t.trace = s.trace ∧ t.pending = s.pending :=
  ⟨_, h, rfl, rfl, rfl, rfl, rfl, rfl, rfl⟩

/-! The bits an acknowledge clears. -/

section
variable (s : State) (n : LineNum)

/-- The acknowledge of a line clears the bits of the sources routed to it and keeps the others. -/
theorem State.acknowledge_isrBit_eq_ite (x : SourceIndex) :
    isrBit (s.acknowledge n).isr x = if icrLine s.icr[x] = n then false else isrBit s.isr x := by
  rw [State.acknowledge_isr_bit]
  by_cases h : icrLine s.icr[x] = n
  · rw [if_pos h, beq_iff_eq.mpr h, Bool.not_true, Bool.and_false]
  · rw [if_neg h, beq_false_of_ne h, Bool.not_false, Bool.and_true]

/-- A second acknowledge of the same line finds nothing more to clear. -/
theorem State.acknowledge_acknowledge_isr : ((s.acknowledge n).acknowledge n).isr = (s.acknowledge n).isr := by
  refine isr_ext fun x => ?_
  rw [State.acknowledge_isrBit_eq_ite, State.acknowledge_icr]
  split_ifs with h
  · rw [State.acknowledge_isrBit_eq_ite, if_pos h]
  · rfl

end

/-- Line 0 has no acknowledge offset. -/
theorem lineOfOffset_ne_zero {offset : Nat} (h : 19 ≤ offset ∧ offset ≤ 25) : lineOfOffset offset ≠ 0#3 := by
  obtain ⟨hlo, hhi⟩ := h
  interval_cases offset <;> decide

/-- No read clears a source on line 0 (spec/41_register_read.md R85 corner case e). -/
theorem State.readOffset_isrBit_of_line_zero (s : State) (offset : Nat) {x : SourceIndex}
    (hx : icrLine s.icr[x] = 0#3) : isrBit (s.readOffset offset).isr x = isrBit s.isr x := by
  by_cases hack : 19 ≤ offset ∧ offset ≤ 25
  · have hline : icrLine s.icr[x] ≠ lineOfOffset offset := hx ▸ (lineOfOffset_ne_zero hack).symm
    rw [State.readOffset, if_pos hack, State.acknowledge_isrBit_eq_ite, if_neg hline]
  · rw [State.readOffset_plain s hack, State.deliver_isr]

/-! The sources counted, line by line. -/

theorem countP_line_le (icr : Vector IcrEntry 24) (n : LineNum) :
    (List.finRange 24).countP (fun x => icrLine icr[x] == n) ≤ 24 :=
  List.countP_le_length.trans_eq List.length_finRange

/-- A line is exactly one of the acknowledged lines 1 to 7 and line 0. -/
theorem sum_line_indicator : ∀ n : LineNum,
    ((List.finRange 7).map fun l => if n == BitVec.ofNat 3 (l.val + 1) then 1 else 0).sum +
      (if n == 0#3 then 1 else 0) = 1 := by
  decide

/-- Counting the members of a list by their lines counts each member once. -/
theorem sum_countP_line {α : Type} (line : α → LineNum) (xs : List α) :
    ((List.finRange 7).map fun l => xs.countP fun x => line x == BitVec.ofNat 3 (l.val + 1)).sum +
      xs.countP (fun x => line x == 0#3) = xs.length := by
  induction xs with
  | nil => rfl
  | cons x xs ih =>
    have hx := sum_line_indicator (line x)
    simp only [List.countP_cons, List.sum_map_add, List.length_cons]
    omega

/-! The statements. -/

/-- Settles O33: the rows are those of the offsets 19 to 25, and each is the acknowledge of its line. -/
theorem acknowledgeClearsAndCountsItsLine : Obligations.AcknowledgeClearsAndCountsItsLine := by
  intro p hp
  obtain ⟨hrow, hline⟩ : decodeRead (18 + p.1.toNat) = p.2 ∧ ackLine p.2 = some p.1 := by
    fin_cases hp <;> exact ⟨rfl, rfl⟩
  refine ⟨congrArg Except.ok hrow, ?_, fun s => ?_⟩
  · rw [← hrow, encode_decodeRead (by omega), readWord_toNat (by omega)]
    omega
  · have hle := countP_line_le s.icr p.1
    have hcount := countByte_toNat hle
    exact ⟨s.acknowledge p.1, _, exec_of_ackLine hline s, s.acknowledge_isrBit_eq_ite p.1, rfl,
      s.acknowledge_readData p.1, hcount, hcount.trans_le hle, rfl, rfl, rfl, rfl⟩

/-- Settles O34: a count depends on the ICR entries alone, and every entry selects one of the eight lines. -/
theorem acknowledgeCountsPartitionTheSources : Obligations.AcknowledgeCountsPartitionTheSources := by
  intro icr isr
  simp only [ackLoop_count, ackSelects_default]
  exact (sum_countP_line (fun x => icrLine icr[x]) (List.finRange 24)).trans List.length_finRange

/-- Settles O35: an acknowledge changes no ICR entry, so the second counts the same sources. -/
theorem repeatedAcknowledgeReturnsTheSameCount : Obligations.RepeatedAcknowledgeReturnsTheSameCount := by
  intro i n s h
  refine ⟨_, _, _, exec_of_ackLine h s, exec_of_ackLine h _, s.acknowledge_acknowledge_isr n,
    s.acknowledge_readData n, ?_, ?_⟩
  · rw [State.acknowledge_readData, State.acknowledge_readData, State.acknowledge_icr, List.append_assoc]
    rfl
  · rw [State.acknowledge_trace, State.acknowledge_trace, List.append_assoc]
    rfl

/-- Settles O36: the lines acknowledged are 1 to 7, and any other read changes no bit. -/
theorem lineZeroSourceIsNeverAcknowledged : Obligations.LineZeroSourceIsNeverAcknowledged :=
  fun offset s _ hx => ⟨_, _, rfl, exec_decodeRead offset s, s.readOffset_isrBit_of_line_zero offset hx⟩

/-- Settles O27: the offset's row is one of the five, and its read hands over the byte of a reserved offset. -/
theorem reservedAndOutOfRangeReadsReturnZero : Obligations.ReservedAndOutOfRangeReadsReturnZero := by
  intro offset h
  refine ⟨decodeRead offset, rfl, decodeRead_26_up h, fun h255 => ?_, fun s => exec_deliver_frame ?_⟩
  · rw [encode_decodeRead (by omega), readWord_toNat (by omega)]
  · rw [exec_decodeRead, State.readOffset_plain s (by omega), State.byteAt_reserved s h]

/-- Settles O23: the row hands over CCR. -/
theorem rdCcrReturnsCcr : Obligations.RdCcrReturnsCcr :=
  ⟨rfl, rfl, fun _ => exec_deliver_frame rfl⟩

/-- Settles O24, one placeholder offset at a time. -/
theorem placeholderReadsReturnZero : Obligations.PlaceholderReadsReturnZero := by
  intro p hp
  fin_cases hp <;> exact ⟨rfl, readWord_toNat (by decide), fun _ => exec_deliver_frame rfl⟩

/-- Settles O25: the row hands over the ABR its offset selects. -/
theorem rdAbrReturnsItsRegister : Obligations.RdAbrReturnsItsRegister := by
  intro i
  refine ⟨congrArg Except.ok (decodeRead_abr i), ?_, fun _ => exec_deliver_frame rfl⟩
  rw [encode, readWord_toNat (by omega)]
  omega

/-- Settles O26: each row hands over its byte view of the ISR, whose bits are given by the view's own lemma. -/
theorem rdIsrReturnsItsByte : Obligations.RdIsrReturnsItsByte := by
  intro p hp
  fin_cases hp
  all_goals
    refine ⟨rfl, readWord_toNat (by decide), fun s =>
      ⟨_, _, rfl, rfl, fun b hb => ?_, rfl, rfl, rfl, rfl, rfl, rfl⟩⟩
  · simp only [isrHigh_bit, hb, decide_true, Bool.true_and]
  · simp only [isrMiddle_bit, hb, decide_true, Bool.true_and]
  · simp only [isrLow_bit, hb, decide_true, Bool.true_and, Nat.zero_add]

end Sys2Proof.Machine
end

section
/-! The source router (spec/42_source_router.md R89 to R95): the pulse discipline of the trace, the word and the
row of a notification, and what the notification of a disabled and of an enabled source does. -/

namespace Sys2Proof

/-- The word of a notification, as a number (spec/30_encoding.md R48). -/
theorem sourceWord_toNat (x : SourceIndex) (l : Level) :
    (sourceWord x l).toNat = 0x20000 + 0x100 * x.val + l.bit.toNat := by
  have hlevel : (0#7 ++ BitVec.ofBool l.bit : Byte).toNat = l.bit.toNat := by cases l <;> rfl
  rw [sourceWord, assembleWord_toNat 0b10#2 (by omega), hlevel, BitVec.toNat_ofNat]
  omega

/-- A source index selects the row whose range it is in (spec/42_source_router.md R90). -/
theorem decodeSource_val (x : SourceIndex) (l : Level) :
    decodeSource x.val l = .ok (if x.val ≤ 15 then .src0_15 x l else .src16_23 x l) := by
  split_ifs with hx
  · exact decodeSource_low hx l
  · exact decodeSource_high (not_le.mp hx) l

theorem decodeSource_out_of_range {index : Nat} (h : 24 ≤ index) (l : Level) :
    decodeSource index l = .error .sourceIndexOutOfRange :=
  dif_neg (not_lt.mpr h)

end Sys2Proof

namespace Sys2Proof.Machine

/-! The events of an enabled notification. -/

/-- The events on line `n` of an enabled notification with level `l` (spec/42_source_router.md R92, R93). -/
def pulseEvents (n : LineNum) : Level → List Event
  | .deasserted => [.lineClear n]
  | .asserted => [.lineClear n, .lineAssert n]

section
variable (s : State)

theorem State.pulseLine_trace_eq (n : LineNum) (l : Level) :
    (s.pulseLine n l).trace = s.trace ++ pulseEvents n l := by
  rw [State.pulseLine_trace]
  cases l <;> rfl

theorem State.notify_trace_enabled {x : SourceIndex} (hen : icrEnable s.icr[x] = true) (l : Level) :
    (s.notify x l).trace = s.trace ++ pulseEvents (icrLine s.icr[x]) l := by
  rw [State.notify_enabled s hen, State.pulseLine_trace_eq, State.setIsr_trace]

/-- A second notification with the same level finds the ISR as the first left it (spec/42_source_router.md R95). -/
theorem State.notify_notify_isr (x : SourceIndex) (l : Level) :
    ((s.notify x l).notify x l).isr = (s.notify x l).isr := by
  refine isr_ext fun y => ?_
  rw [State.notify_isr_bit, State.notify_icr]
  split_ifs with h
  · rw [State.notify_isr_bit, if_pos h]
  · rfl

end

/-! The pulse discipline (spec/42_source_router.md R94): traces that keep it may be appended, and what an
operation appends keeps it. -/

theorem pulsesOnly_nil : pulsesOnly [] := by
  intro k n h
  simp at h

/-- An assert of the second trace has its clear there, at the index one less. -/
theorem pulsesOnly_append {t es : List Event} (ht : pulsesOnly t) (hes : pulsesOnly es) : pulsesOnly (t ++ es) := by
  intro k n h
  by_cases hk : k < t.length
  · rw [List.getElem?_append_left hk] at h
    obtain ⟨j, rfl, hj⟩ := ht k n h
    exact ⟨j, rfl, by rwa [List.getElem?_append_left (by omega)]⟩
  · rw [List.getElem?_append_right (not_lt.mp hk)] at h
    obtain ⟨j, hkj, hj⟩ := hes _ n h
    refine ⟨t.length + j, by omega, ?_⟩
    rwa [List.getElem?_append_right (Nat.le_add_right ..), Nat.add_sub_cancel_left]

theorem pulsesOnly_singleton {e : Event} (he : ∀ n, e ≠ .lineAssert n) : pulsesOnly [e] := by
  intro k n h
  exact absurd (List.mem_singleton.mp (List.mem_of_getElem? h)).symm (he n)

theorem pulsesOnly_pulse (n : LineNum) : pulsesOnly [.lineClear n, .lineAssert n] := by
  intro k m h
  match k with
  | 0 => simp at h
  | 1 =>
    obtain rfl : n = m := by simpa using h
    exact ⟨0, rfl, rfl⟩
  | k + 2 => simp at h

theorem pulsesOnly_pulseEvents (n : LineNum) : ∀ l, pulsesOnly (pulseEvents n l)
  | .deasserted => pulsesOnly_singleton (by simp)
  | .asserted => pulsesOnly_pulse n

theorem State.notify_keeps_pulsesOnly {s : State} (hs : pulsesOnly s.trace) (x : SourceIndex) (l : Level) :
    pulsesOnly (s.notify x l).trace := by
  cases hen : icrEnable s.icr[x] with
  | false => rwa [State.notify_disabled s hen]
  | true =>
    rw [State.notify_trace_enabled s hen]
    exact pulsesOnly_append hs (pulsesOnly_pulseEvents _ l)

theorem exec_keeps_pulsesOnly {i : Instr} {s t : State} (h : exec i s = .next t) (hs : pulsesOnly s.trace) :
    pulsesOnly t.trace := by
  induction t, h using exec_cases with
  | writeCcr v => exact pulsesOnly_append hs (pulsesOnly_singleton (by simp))
  | acknowledge n => exact pulsesOnly_append hs (pulsesOnly_singleton (by simp))
  | notify x l => exact State.notify_keeps_pulsesOnly hs x l
  | resetRegisters => exact pulsesOnly_nil
  | _ => simpa using hs

/-! The notification of a source, whichever of the two rows it is in. -/

theorem sourceOf_eq_some {i : Instr} {x : SourceIndex} {l : Level} :
    sourceOf i = some (x, l) ↔ i = .src0_15 x l ∨ i = .src16_23 x l := by
  cases i <;> simp [sourceOf]

/-- The notification of an enabled source, written out register by register (spec/42_source_router.md R92,
R93). -/
theorem exec_enabled_notification {i : Instr} {x : SourceIndex} {l : Level} {s : State}
    (hi : sourceOf i = some (x, l)) (hen : icrEnable s.icr[x] = true) :
    ∃ t, exec i s = .next t ∧ isrBit t.isr x = l.bit ∧ (∀ y, y ≠ x → isrBit t.isr y = isrBit s.isr y) ∧
      t.trace = s.trace ++ pulseEvents (icrLine s.icr[x]) l ∧
      (∀ n, t.line n = if n = icrLine s.icr[x] then l.bit else s.line n) ∧
      t.ccr = s.ccr ∧ t.abr = s.abr ∧ t.icr = s.icr ∧ t.readData = s.readData ∧ t.pending = s.pending := by
  refine ⟨s.notify x l, exec_of_sourceOf hi s, ?_, fun y hy => ?_, State.notify_trace_enabled s hen l, fun n => ?_,
    State.notify_ccr .., State.notify_abr .., State.notify_icr .., State.notify_readData ..,
    State.notify_pending ..⟩
  · rw [State.notify_isr_bit, if_pos ⟨hen, rfl⟩]
  · rw [State.notify_isr_bit, if_neg fun h => hy h.2]
  · simp only [State.notify_line, hen, true_and]

/-! The statements. -/

/-- Settles O50: an idle step emits nothing, and what an operation emits keeps the pulse discipline. -/
theorem stepKeepsAssertsPulsed : Obligations.StepKeepsAssertsPulsed := by
  intro s t hs h
  rcases step_shape h with ⟨_, rfl⟩ | ⟨_, rest, _, _, _, hexec⟩
  · exact hs
  · exact exec_keeps_pulsesOnly (s := s.setPending rest) hexec hs

/-- Settles O40: the enabled notification at the asserted level. -/
theorem enabledSourceAsserts : Obligations.EnabledSourceAsserts :=
  fun _ _ _ hi hen => exec_enabled_notification (sourceOf_eq_some.mpr hi) hen

/-- Settles O41: the enabled notification at the deasserted level. -/
theorem enabledSourceDeasserts : Obligations.EnabledSourceDeasserts :=
  fun _ _ _ hi hen => exec_enabled_notification (sourceOf_eq_some.mpr hi) hen

/-- Settles O42: the first notification leaves the ICR entry as it was, so the second finds the source enabled and
on the same line. -/
theorem repeatedAssertionPulsesAgain : Obligations.RepeatedAssertionPulsesAgain := by
  intro i x s hi hen
  have hen' : icrEnable (s.notify x .asserted).icr[x] = true := by rwa [State.notify_icr]
  refine ⟨_, _, icrLine s.icr[x], rfl, exec_of_sourceOf hi s, exec_of_sourceOf hi _,
    s.notify_notify_isr x .asserted, ?_⟩
  rw [State.notify_trace_enabled _ hen', State.notify_trace_enabled s hen, State.notify_icr, List.append_assoc]
  rfl

/-- Settles O38: the row by the index, the word by its fields. -/
theorem notificationsSelectTheirSource : Obligations.NotificationsSelectTheirSource :=
  ⟨fun x l => ⟨decodeSource_val x l, sourceWord_toNat x l, sourceWord_toNat x l⟩,
    fun _ l h => decodeSource_out_of_range h l⟩

/-- Settles O39: both rows notify the source, which its entry disables. -/
theorem disabledSourceIsIgnored : Obligations.DisabledSourceIsIgnored := by
  intro x l i s hi hdis
  rw [exec_of_sourceOf (sourceOf_eq_some.mpr hi) s, State.notify_disabled s hdis]

end Sys2Proof.Machine
end

section
/-! Exceptions and interrupt sources (spec/60_exceptions.md R96 to R98): every operation completes, and a source
that nothing drives never becomes pending. -/

namespace Sys2Proof.Machine

/-- Only a notification of its own source sets an ISR bit (spec/10_state.md R24). -/
theorem exec_isrBit_of_not_notified {i : Instr} {s t : State} (h : exec i s = .next t) {x : SourceIndex}
    (hi : ∀ l, sourceOf i ≠ some (x, l)) (hx : isrBit s.isr x = false) : isrBit t.isr x = false := by
  rcases exec_isrBit_eq_or h x with heq | rfl | ⟨l, hl, -⟩ | hack
  · exact heq.trans hx
  · cases h
    exact isrBit_zero x
  · exact absurd hl (hi l)
  · cases (exec_of_ackLine hack s).symm.trans h
    rw [State.acknowledge_isr_bit, hx, Bool.false_and]

section
variable {wired : List Nat}

/-- What an operation of the wired environment notifies is wired (spec/60_exceptions.md R98). -/
theorem wired_of_requestFromWired {r : Request} {i : Instr} (hr : requestFromWired wired r = true)
    (hd : decodeRequest r = .ok i) {x : SourceIndex} {l : Level} (hi : sourceOf i = some (x, l)) :
    wired.contains x.val = true := by
  simpa only [requestFromWired, hd, hi] using hr

/-- On a timeline of the wired environment, an operation leaves the unwired sources quiet. -/
theorem exec_keeps_onlyWiredPending {r : Request} {i : Instr} {s t : State} (hr : requestFromWired wired r = true)
    (hd : decodeRequest r = .ok i) (h : exec i s = .next t) (hs : s.onlyWiredPending wired) :
    t.onlyWiredPending wired := by
  obtain ⟨hpending, hquiet⟩ := hs
  refine ⟨by rwa [exec_pending h], fun x hx => exec_isrBit_of_not_notified h (fun l hl => ?_) (hquiet x hx)⟩
  exact Bool.false_ne_true (hx.symm.trans (wired_of_requestFromWired hr hd hl))

/-- Taking the first request off the timeline leaves one of the wired environment. -/
theorem State.onlyWiredPending_setPending {s : State} {r : Request} {rest : List Request}
    (hp : s.pending = r :: rest) (hs : s.onlyWiredPending wired) :
    requestFromWired wired r = true ∧ (s.setPending rest).onlyWiredPending wired := by
  obtain ⟨hpending, hquiet⟩ := hs
  rw [hp, List.all_cons, Bool.and_eq_true] at hpending
  exact ⟨hpending.1, hpending.2, hquiet⟩

end

/-! The statements. -/

/-- Settles O51: an idle step changes nothing, and an operation the wired environment issues sets no unwired
source's bit. -/
theorem stepKeepsUnwiredSourcesQuiet : Obligations.StepKeepsUnwiredSourcesQuiet := by
  intro wired s t hs h
  rcases step_shape h with ⟨_, rfl⟩ | ⟨r, rest, i, hp, hd, hexec⟩
  · exact hs
  · obtain ⟨hr, hrest⟩ := State.onlyWiredPending_setPending hp hs
    exact exec_keeps_onlyWiredPending hr hd hexec hrest

/-- Settles O43: each of the operations answers a next state. -/
theorem everyOperationCompletes : Obligations.EveryOperationCompletes :=
  exec_next

end Sys2Proof.Machine
end

section
/-! Reset and hazards (spec/70_reset_and_hazards.md R116 to R128): the state after reset seen through the window
and by the sources, and the hazards of disabled, shared and re-routed sources. -/

namespace Sys2Proof.Machine

/-! The state after `RST` (spec/70_reset_and_hazards.md R119). -/

section
variable (s : State)

/-- No entry selects a line that has an acknowledge, so each of these counts 0; every other byte is a register's
zero or reserved. -/
theorem State.byteAt_resetRegisters (offset : Nat) : s.resetRegisters.byteAt offset = 0x00#8 := by
  by_cases hack : 19 ≤ offset ∧ offset ≤ 25
  · have hline : icrLine 0#4 ≠ lineOfOffset offset := (lineOfOffset_ne_zero hack).symm
    rw [State.byteAt_acknowledge _ hack, ackLoop_count, List.countP_eq_zero.mpr fun x _ => by simpa using hline]
    rfl
  · rw [State.byteAt, if_neg hack]
    split_ifs <;> simp [isrHigh, isrMiddle, isrLow]

theorem State.resetRegisters_notify (x : SourceIndex) (l : Level) : s.resetRegisters.notify x l = s.resetRegisters :=
  State.notify_disabled _ (by simp [icrEnable]) l

end

/-! The hazards, operation by operation. -/

/-- The notification of a source in range is performed, whichever of the two rows it is in
(spec/42_source_router.md R90). -/
theorem decodeRequest_source (x : SourceIndex) (l : Level) :
    ∃ i, decodeRequest (.source x.val l) = .ok i ∧ ∀ s, exec i s = .next (s.notify x l) := by
  refine ⟨_, decodeSource_val x l, exec_of_sourceOf ?_⟩
  split_ifs <;> rfl

/-- The notification of an enabled source moves the line it selects to the level and no other line
(spec/42_source_router.md R92, R93). -/
theorem State.notify_line_enabled (s : State) {x : SourceIndex} (hen : icrEnable s.icr[x] = true) (l : Level)
    (n : LineNum) : (s.notify x l).line n = if n = icrLine s.icr[x] then l.bit else s.line n := by
  simp only [State.notify_line, hen, true_and]

/-! The rest of the timeline takes no part in a notification or a write. -/

theorem State.notify_setPending (s : State) (rs : List Request) (x : SourceIndex) (l : Level) :
    (s.setPending rs).notify x l = (s.notify x l).setPending rs := by
  cases hen : icrEnable s.icr[x] with
  | false => rw [State.notify_disabled s hen, State.notify_disabled (s.setPending rs) hen]
  | true =>
    rw [State.notify_enabled s hen, State.notify_enabled (s.setPending rs) hen]
    cases l <;> rfl

theorem State.writeOffset_setPending (s : State) (rs : List Request) (offset : Nat) (v : Byte) :
    (s.setPending rs).writeOffset offset v = (s.writeOffset offset v).setPending rs := by
  unfold State.writeOffset
  split_ifs <;> rfl

/-- A step on a waiting notification. -/
theorem step_source {s : State} {x : SourceIndex} {l : Level} {rest : List Request}
    (hp : s.pending = .source x.val l :: rest) : step s = .next ((s.notify x l).setPending rest) := by
  obtain ⟨i, hd, hexec⟩ := decodeRequest_source x l
  rw [step_performs hp hd, hexec, State.notify_setPending]

/-- A step on a waiting write. -/
theorem step_write {s : State} {offset : Nat} {v : Byte} {rest : List Request}
    (hp : s.pending = .write offset v :: rest) : step s = .next ((s.writeOffset offset v).setPending rest) := by
  rw [step_performs hp rfl, exec_decodeWrite, State.writeOffset_setPending]

section
variable (s : State) (x : SourceIndex) (v : Byte)

/-- The write of a source's own ICR byte emits nothing (spec/40_register_write.md R69 corner case b). -/
theorem State.writeOffset_icrByte_trace : (s.writeOffset (16 + x.val / 2) v).trace = s.trace := by
  rw [State.writeOffset_trace, if_neg (by omega), List.append_nil]

/-- The write of a source's own ICR byte sets its entry: the high nibble of an even source, the low nibble of an
odd one (spec/40_register_write.md R69). -/
theorem State.writeOffset_icrByte_icr :
    (s.writeOffset (16 + x.val / 2) v).icr[x] = if x.val % 2 = 0 then highNibble v else lowNibble v := by
  rw [State.writeOffset, if_neg (by omega), dif_neg (by omega), dif_pos (by omega), State.writeIcrByte_icr]
  rcases Nat.mod_two_eq_zero_or_one x.val with heven | hodd
  · rw [if_pos (by simp only; omega), if_pos heven]
  · rw [if_neg (by simp only; omega), if_pos (by simp only; omega), if_neg (by omega)]

end

/-! A source asserted on the line its entry selects and then re-routed by the write of its ICR byte
(spec/70_reset_and_hazards.md R124). -/

/-- The state after the assertion of `x` and the write of `v` to its ICR byte. -/
def State.reroutePending (s : State) (x : SourceIndex) (v : Byte) : State :=
  (s.notify x .asserted).writeOffset (16 + x.val / 2) v

section
variable {s : State} {x : SourceIndex} {v : Byte}

theorem State.reroutePending_icr :
    (s.reroutePending x v).icr[x] = if x.val % 2 = 0 then highNibble v else lowNibble v :=
  State.writeOffset_icrByte_icr ..

theorem State.reroutePending_isrBit (hen : icrEnable s.icr[x] = true) :
    isrBit (s.reroutePending x v).isr x = true := by
  rw [State.reroutePending, State.writeOffset_isr, State.notify_isr_bit, if_pos ⟨hen, rfl⟩]

theorem State.reroutePending_line (hen : icrEnable s.icr[x] = true) (n : LineNum) :
    (s.reroutePending x v).line n = if n = icrLine s.icr[x] then true else s.line n := by
  rw [State.reroutePending, State.line_congr (State.writeOffset_icrByte_trace ..),
    State.notify_line_enabled s hen, Level.bit]

/-- Two steps of a timeline that asserts a source and rewrites its ICR byte. -/
theorem run_reroutePending {rest : List Request}
    (hp : s.pending = .source x.val .asserted :: .write (16 + x.val / 2) v :: rest) (n : Nat) :
    Host.Core.run Sys2Proof.core (n + 2) s =
      Host.Core.run Sys2Proof.core n ((s.reroutePending x v).setPending rest) := by
  rw [run_next (step_source hp), run_next (step_write rfl), State.writeOffset_setPending]
  rfl

end

/-! The statements. -/

/-- Settles O15: reset disables every source and selects line 0 for each. -/
theorem afterResetReadsAreZeroAndSourcesSilent : Obligations.AfterResetReadsAreZeroAndSourcesSilent := by
  intro s
  refine ⟨s.resetRegisters, rfl, rfl, s.line_resetRegisters, fun offset => ?_, fun x l => ?_, rfl⟩
  · refine ⟨decodeRead offset, _, rfl, exec_decodeRead offset _, ?_⟩
    rw [State.readOffset_readData, State.byteAt_resetRegisters, State.resetRegisters_readData]
  · have hsilent := s.resetRegisters_notify x l
    exact ⟨congrArg Host.Outcome.next hsilent, congrArg Host.Outcome.next hsilent⟩

/-- Settles O48: of the operations that can change the bit, a notification needs the source enabled. -/
theorem maskedPendingBitStays : Obligations.MaskedPendingBitStays := by
  intro i s t x h hmasked hpending hcleared
  rcases exec_isrBit_eq_or h x with heq | hi | ⟨_, _, hen⟩ | hi
  · exact absurd (hcleared.symm.trans (heq.trans hpending)) Bool.false_ne_true
  · exact .inl hi
  · exact absurd (hmasked.symm.trans hen) Bool.false_ne_true
  · exact .inr hi

/-- Settles O54: the notification leaves the state as it was, and the write touches neither ISR nor the trace. -/
theorem lostNotificationIsNotRecovered : Obligations.LostNotificationIsNotRecovered := by
  intro s x v hdis hbit
  obtain ⟨i, hd, hexec⟩ := decodeRequest_source x .asserted
  have hlost : exec i s = .next s := by rw [hexec, State.notify_disabled s hdis]
  refine ⟨i, _, s, _, hd, hlost, rfl, exec_decodeWrite _ v s, ?_, s.writeOffset_icrByte_trace x v⟩
  rwa [State.writeOffset_isr]

/-- Settles O55: the notification clears the line both sources select and writes the bit of its own source only. -/
theorem sharedLineDeassertHidesPendingSource : Obligations.SharedLineDeassertHidesPendingSource := by
  intro s x y hxy hen hshared hpending
  obtain ⟨i, hd, hexec⟩ := decodeRequest_source x .deasserted
  refine ⟨i, _, hd, hexec s, ?_, ?_⟩
  · rwa [State.notify_isr_bit, if_neg fun h => hxy h.2.symm]
  · exact (s.notify_line x .deasserted _).trans (if_pos ⟨hen, hshared.symm⟩)

/-- Settles O56: the assertion acts on the old line, the write emits nothing, the deassertion acts on the line the
entry then selects. -/
theorem reroutedSourceLeavesOldLineAsserted : Obligations.ReroutedSourceLeavesOldLineAsserted := by
  intro s x v e rest he hold hnew hmoved hp
  have hentry : (s.reroutePending x v).icr[x] = e := State.reroutePending_icr.trans he.symm
  have hen : icrEnable (s.reroutePending x v).icr[x] = true := hentry ▸ hnew
  have hassert := State.reroutePending_line (v := v) hold
  have hdeassert := State.notify_line_enabled _ hen .deasserted
  rw [hentry] at hdeassert
  refine ⟨_, ((s.reroutePending x v).notify x .deasserted).setPending rest, run_reroutePending hp 0, ?_,
    State.reroutePending_isrBit hold, ?_, ?_, ?_, ?_, ?_⟩
  · rw [run_reroutePending hp 1, run_next (step_source rfl), State.notify_setPending]
    rfl
  · exact (hassert _).trans (if_pos rfl)
  · exact (hassert _).trans (if_neg hmoved)
  · rw [State.setPending_isr, State.notify_isr_bit, if_pos ⟨hen, rfl⟩]
  · exact (hdeassert _).trans ((if_neg hmoved.symm).trans ((hassert _).trans (if_pos rfl)))
  · exact (hdeassert _).trans (if_pos rfl)

/-- Settles O12: the reset state is written with an empty trace, and 0x00 selects table entry 0. -/
theorem resetStateHasQuietOutputs : Obligations.ResetStateHasQuietOutputs :=
  ⟨State.reset_trace, fun _ => rfl, clkOf_table (c := 0x00#8) rfl⟩

/-- Settles O13: the clock is derived from an empty trace, which has no assert, and no ISR bit is set. -/
theorem invariantsHoldAtReset : Obligations.InvariantsHoldAtReset :=
  ⟨rfl, pulsesOnly_nil, rfl, fun x _ => isrBit_zero x⟩

/-- Settles O14: `RST` is the reset of the four entities, which keeps the model's records. -/
theorem rstZeroesEveryRegister : Obligations.RstZeroesEveryRegister :=
  ⟨rfl, by decide, fun s => ⟨s.resetRegisters, rfl, rfl, fun i => by simp, fun x => by simp, rfl, rfl, rfl⟩⟩

end Sys2Proof.Machine
end

section
/-! PROOFS, the two readings of the acknowledge test (spec/90_conflicts.md C2): the loop depends on the test's
answers alone, and the answers differ only at an entry of the line that is not enabled. -/

namespace Sys2Proof.Machine

/-- The switch changes no answer of the test at an entry that is enabled if it selects the line
(spec/92_eei_decisions.md D10). -/
theorem ackSelects_of_enabled {line : LineNum} {e : IcrEntry} (h : icrLine e = line → icrEnable e = true)
    (switch : Bool) : ackSelects switch line e = (icrLine e == line) := by
  rw [ackSelects]
  by_cases hline : icrLine e = line
  · rw [h hline, Bool.or_true, Bool.and_true]
  · rw [beq_false_of_ne hline, Bool.false_and]

/-- Neither reading selects an entry of another line. -/
theorem ackSelects_other_line {line : LineNum} {e : IcrEntry} (h : icrLine e ≠ line) (switch : Bool) :
    ackSelects switch line e = false := by
  rw [ackSelects, beq_false_of_ne h, Bool.false_and]

/-- Two acknowledges whose tests answer alike at every source have the same ISR and the same count. -/
theorem ackLoop_eq_of_ackSelects {a b : Bool} {icr : Vector IcrEntry 24} {line : LineNum}
    (h : ∀ x : SourceIndex, ackSelects a line icr[x] = ackSelects b line icr[x]) (isr : IsrWord) :
    ackLoop a icr line isr = ackLoop b icr line isr := by
  refine Prod.ext (isr_ext fun x => ?_) ?_
  · rw [ackLoop_bit, ackLoop_bit, h]
  · simp only [ackLoop_count, h]

/-- Settles O37: on enabled sources the line select decides under either reading, and a source of another line is
selected under neither. -/
theorem acknowledgeReadingsAgreeOnEnabledSources : Obligations.AcknowledgeReadingsAgreeOnEnabledSources := by
  intro icr n isr
  refine ⟨fun hen => ackLoop_eq_of_ackSelects (fun x => ?_) isr, fun switch x hx => ?_⟩
  · rw [ackSelects_of_enabled (hen x), ackSelects_of_enabled (hen x)]
  · rw [ackLoop_bit, ackSelects_other_line hx, Bool.not_false, Bool.and_true]

end Sys2Proof.Machine
end
